-- ==== Sys2Proof/Word.lean ====
section
/-! DEFINITION. The word types: a byte is 8 bits, a word is 16 bits (00_scope R6). -/

namespace Sys2Proof

/-- An unsigned 8-bit value (00_scope R6). -/
abbrev Byte := BitVec 8

/-- An unsigned 16-bit value (00_scope R6): the program counter, a CPU bus address. -/
abbrev Word := BitVec 16

end Sys2Proof
end

