-- ==== Sys2Proof/Machine/Bits.lean ====
section
/-! DEFINITION. Byte order, sign extension and the page of an address (00_scope R6, 20_memory R73). -/

namespace Sys2Proof.Machine

/-- `hi:lo`, that is `(hi << 8) | lo` (00_scope R6). -/
def wordOf (hi lo : Byte) : Word := hi ++ lo

/-- Bits 7:0 of a word, the byte at the lower address (20_memory R73). -/
def loByte (w : Word) : Byte := w.extractLsb' 0 8

/-- Bits 15:8 of a word, the byte at the higher address (20_memory R73). -/
def hiByte (w : Word) : Byte := w.extractLsb' 8 8

/-- A byte as the word of the same value. -/
def zeroExtend (b : Byte) : Word := b.setWidth 16

/-- `sext8to16(b)` (00_scope R6). -/
def signExtend (b : Byte) : Word := b.signExtend 16

/-- The page of a word, `a & 0xFF00` (00_scope glossary). -/
def page (a : Word) : Word := a &&& 0xFF00

/-- Bit 7 of a byte. -/
def bit7 (b : Byte) : Bool := b.getLsbD 7

end Sys2Proof.Machine
end

