-- ==== Sys2Proof/Syntax.lean ====
section
/-! DEFINITION. The instructions as syntax: the addressing modes, the operand forms, the mnemonics,
and `Instr`, one constructor for each of the 256 rows of spec/opcode_table.json. Operands are held at
the width their mode gives them (30_encoding R111, R112), so every term is an instruction. -/

namespace Sys2Proof

/-- The twelve addressing mode tags (30_encoding R111). -/
inductive Mode where
  | IMP | IMM | ZP0 | ZPX | ZPY | REL | ABS | ABX | ABY | IND | IZX | IZY
deriving DecidableEq, Repr

/-- An addressing mode with its operand: the operand forms of 30_encoding R111. A two-byte operand is
the word `hh:ll` (R112). -/
inductive Form where
  | imp
  | imm (v : Byte)
  | zp0 (ll : Byte)
  | zpx (ll : Byte)
  | zpy (ll : Byte)
  | rel (rr : Byte)
  | abs (addr : Word)
  | abx (addr : Word)
  | aby (addr : Word)
  | ind (ptr : Word)
  | izx (ll : Byte)
  | izy (ll : Byte)
deriving DecidableEq, Repr

/-- The 56 documented mnemonics (30_encoding R114). -/
inductive Mnemonic where
  | ADC | AND | ASL | BCC | BCS | BEQ | BIT | BMI | BNE | BPL | BRK | BVC | BVS | CLC
  | CLD | CLI | CLV | CMP | CPX | CPY | DEC | DEX | DEY | EOR | INC | INX | INY | JMP
  | JSR | LDA | LDX | LDY | LSR | NOP | ORA | PHA | PHP | PLA | PLP | ROL | ROR | RTI
  | RTS | SBC | SEC | SED | SEI | STA | STX | STY | TAX | TAY | TSX | TXA | TXS | TYA
deriving DecidableEq, Repr

/-- The instructions: one constructor for each row of spec/opcode_table.json. A documented row is named
by its mnemonic and mode (30_encoding R114), an illegal row by its opcode byte (R115, R116). -/
inductive Instr where
  -- loads, stores and transfers (41_load_store_transfer)
  | ldaImm (v : Byte)
  | ldaZp0 (ll : Byte)
  | ldaZpx (ll : Byte)
  | ldaAbs (addr : Word)
  | ldaAbx (addr : Word)
  | ldaAby (addr : Word)
  | ldaIzx (ll : Byte)
  | ldaIzy (ll : Byte)
  | ldxImm (v : Byte)
  | ldxZp0 (ll : Byte)
  | ldxZpy (ll : Byte)
  | ldxAbs (addr : Word)
  | ldxAby (addr : Word)
  | ldyImm (v : Byte)
  | ldyZp0 (ll : Byte)
  | ldyZpx (ll : Byte)
  | ldyAbs (addr : Word)
  | ldyAbx (addr : Word)
  | staZp0 (ll : Byte)
  | staZpx (ll : Byte)
  | staAbs (addr : Word)
  | staAbx (addr : Word)
  | staAby (addr : Word)
  | staIzx (ll : Byte)
  | staIzy (ll : Byte)
  | stxZp0 (ll : Byte)
  | stxZpy (ll : Byte)
  | stxAbs (addr : Word)
  | styZp0 (ll : Byte)
  | styZpx (ll : Byte)
  | styAbs (addr : Word)
  | taxImp
  | tayImp
  | tsxImp
  | txaImp
  | txsImp
  | tyaImp
  -- arithmetic and logic (42_arithmetic_logic)
  | adcImm (v : Byte)
  | adcZp0 (ll : Byte)
  | adcZpx (ll : Byte)
  | adcAbs (addr : Word)
  | adcAbx (addr : Word)
  | adcAby (addr : Word)
  | adcIzx (ll : Byte)
  | adcIzy (ll : Byte)
  | sbcImm (v : Byte)
  | sbcZp0 (ll : Byte)
  | sbcZpx (ll : Byte)
  | sbcAbs (addr : Word)
  | sbcAbx (addr : Word)
  | sbcAby (addr : Word)
  | sbcIzx (ll : Byte)
  | sbcIzy (ll : Byte)
  | andImm (v : Byte)
  | andZp0 (ll : Byte)
  | andZpx (ll : Byte)
  | andAbs (addr : Word)
  | andAbx (addr : Word)
  | andAby (addr : Word)
  | andIzx (ll : Byte)
  | andIzy (ll : Byte)
  | oraImm (v : Byte)
  | oraZp0 (ll : Byte)
  | oraZpx (ll : Byte)
  | oraAbs (addr : Word)
  | oraAbx (addr : Word)
  | oraAby (addr : Word)
  | oraIzx (ll : Byte)
  | oraIzy (ll : Byte)
  | eorImm (v : Byte)
  | eorZp0 (ll : Byte)
  | eorZpx (ll : Byte)
  | eorAbs (addr : Word)
  | eorAbx (addr : Word)
  | eorAby (addr : Word)
  | eorIzx (ll : Byte)
  | eorIzy (ll : Byte)
  | bitZp0 (ll : Byte)
  | bitAbs (addr : Word)
  | cmpImm (v : Byte)
  | cmpZp0 (ll : Byte)
  | cmpZpx (ll : Byte)
  | cmpAbs (addr : Word)
  | cmpAbx (addr : Word)
  | cmpAby (addr : Word)
  | cmpIzx (ll : Byte)
  | cmpIzy (ll : Byte)
  | cpxImm (v : Byte)
  | cpxZp0 (ll : Byte)
  | cpxAbs (addr : Word)
  | cpyImm (v : Byte)
  | cpyZp0 (ll : Byte)
  | cpyAbs (addr : Word)
  | incZp0 (ll : Byte)
  | incZpx (ll : Byte)
  | incAbs (addr : Word)
  | incAbx (addr : Word)
  | inxImp
  | inyImp
  | decZp0 (ll : Byte)
  | decZpx (ll : Byte)
  | decAbs (addr : Word)
  | decAbx (addr : Word)
  | dexImp
  | deyImp
  -- shifts and rotates (43_shift_rotate)
  | aslImp
  | aslZp0 (ll : Byte)
  | aslZpx (ll : Byte)
  | aslAbs (addr : Word)
  | aslAbx (addr : Word)
  | lsrImp
  | lsrZp0 (ll : Byte)
  | lsrZpx (ll : Byte)
  | lsrAbs (addr : Word)
  | lsrAbx (addr : Word)
  | rolImp
  | rolZp0 (ll : Byte)
  | rolZpx (ll : Byte)
  | rolAbs (addr : Word)
  | rolAbx (addr : Word)
  | rorImp
  | rorZp0 (ll : Byte)
  | rorZpx (ll : Byte)
  | rorAbs (addr : Word)
  | rorAbx (addr : Word)
  -- control flow (44_control_flow)
  | bccRel (rr : Byte)
  | bcsRel (rr : Byte)
  | beqRel (rr : Byte)
  | bmiRel (rr : Byte)
  | bneRel (rr : Byte)
  | bplRel (rr : Byte)
  | bvcRel (rr : Byte)
  | bvsRel (rr : Byte)
  | jmpAbs (addr : Word)
  | jmpInd (ptr : Word)
  | jsrAbs (addr : Word)
  | rtsImp
  -- stack, flags and system (45_stack_flags_system)
  | phaImp
  | phpImp
  | plaImp
  | plpImp
  | clcImp
  | cldImp
  | cliImp
  | clvImp
  | secImp
  | sedImp
  | seiImp
  | brkImp
  | rtiImp
  | nopImp
  -- the 105 illegal opcodes (30_encoding R115, R116)
  | ill02 | ill03 | ill04 | ill07 | ill0B | ill0C | ill0F | ill12
  | ill13 | ill14 | ill17 | ill1A | ill1B | ill1C | ill1F | ill22
  | ill23 | ill27 | ill2B | ill2F | ill32 | ill33 | ill34 | ill37
  | ill3A | ill3B | ill3C | ill3F | ill42 | ill43 | ill44 | ill47
  | ill4B | ill4F | ill52 | ill53 | ill54 | ill57 | ill5A | ill5B
  | ill5C | ill5F | ill62 | ill63 | ill64 | ill67 | ill6B | ill6F
  | ill72 | ill73 | ill74 | ill77 | ill7A | ill7B | ill7C | ill7F
  | ill80 | ill82 | ill83 | ill87 | ill89 | ill8B | ill8F | ill92
  | ill93 | ill97 | ill9B | ill9C | ill9E | ill9F | illA3 | illA7
  | illAB | illAF | illB2 | illB3 | illB7 | illBB | illBF | illC2
  | illC3 | illC7 | illCB | illCF | illD2 | illD3 | illD4 | illD7
  | illDA | illDB | illDC | illDF | illE2 | illE3 | illE7 | illEB
  | illEF | illF2 | illF3 | illF4 | illF7 | illFA | illFB | illFC
  | illFF
deriving DecidableEq, Repr

end Sys2Proof
end

