-- ==== Sys2Proof/Config.lean ====
section
/-! DEFINITION. The implementation parameters of 00_scope R5 that the source leaves OPEN, as one record
of plain data. A machine carries its record in `State.cfg`, which no step writes, so a statement about
every state is a statement about every value of every parameter (log 1). -/

namespace Sys2Proof

/-- Bytes at offsets, the form in which every backing store is held: offsets strictly rising and no
entry 0x00, which is what an unlisted offset reads as (`Memory.wf`; log 8). -/
abbrev Memory := List Host.Cell

/-- The stub routines, the only ones an illegal entry may bind (30_encoding R115; 45_stack_flags_system R264,
R265). -/
inductive StubRoutine where
  | xxx
  | nop
deriving DecidableEq, Repr

/-- One replaced entry of the parameter `ILLEGAL_TABLE` (30_encoding R115, D4): the opcode byte, its
mnemonic string by characters, its addressing mode, its base cycle count, and the stub it binds. What the
stub returns as `opcodeExtra` is no part of it: 90_conflicts C9 decides that. -/
structure IllegalEntry where
  opcode : Byte
  name : List Char
  mode : Mode
  baseCycles : Nat
  routine : StubRoutine
deriving DecidableEq, Repr

/-- The OPEN parameters (00_scope R5) with the spec's defaults (92_eei_decisions). -/
structure Config where
  /-- `RAM_INIT`: the RAM contents at power-on (D8). -/
  ramInit : Memory := []
  /-- `PPU_INIT_CYCLE` (D9). -/
  ppuInitCycle : Nat := 0
  /-- `PPU_INIT_SCANLINE` (D9). -/
  ppuInitScanline : Int := 0
  /-- `PRG_WRITABLE`: CPU writes reach program memory (D11). -/
  prgWritable : Bool := true
  /-- `PPU_BUS_MASK`: the mask of a picture-unit-side address (D13). -/
  ppuBusMask : Word := 0x3FFF
  /-- `BRK_RETURN_OFFSET`: the PC that BRK pushes minus the BRK's address (D5). -/
  brkReturnOffset : Word := 2
  /-- `ILLEGAL_TABLE` (D4; log 7): the entries that differ from the default of 30_encoding R115, the first
  entry of an opcode byte counting. -/
  illegalOverrides : List IllegalEntry := []
deriving DecidableEq, Repr

end Sys2Proof
end

