-- ==== Sys2Proof/Machine/Table.lean ====
section
/-! DEFINITION. The instruction descriptor table (00_scope R10, 30_encoding R113 to R116): for each of the
256 opcode bytes its mnemonic string, addressing mode, opcode routine, base cycle count and the value its
routine returns as `opcodeExtra`. The rows below are the opcode matrix of 30_encoding R114, one list a
high nibble. -/

namespace Sys2Proof.Machine

/-- An opcode routine: that of a documented mnemonic, or the stub `XXX` (30_encoding R113, R115). -/
inductive Routine where
  | of (m : Mnemonic)
  | xxx
deriving DecidableEq, Repr

/-- A table entry (30_encoding R113). -/
structure Descriptor where
  /-- The mnemonic string, by characters. -/
  name : List Char
  mode : Mode
  routine : Routine
  baseCycles : Nat
  opcodeExtra : Bool
  documented : Bool
deriving DecidableEq, Repr

/-- The addressing mode of an operand form. -/
def modeOf (f : Form) : Mode :=
  match f with
  | .imp => .IMP
  | .imm _ => .IMM
  | .zp0 _ => .ZP0
  | .zpx _ => .ZPX
  | .zpy _ => .ZPY
  | .rel _ => .REL
  | .abs _ => .ABS
  | .abx _ => .ABX
  | .aby _ => .ABY
  | .ind _ => .IND
  | .izx _ => .IZX
  | .izy _ => .IZY

/-- The number of operand bytes that follow the opcode byte (30_encoding R111). -/
def operandCount (m : Mode) : Nat :=
  match m with
  | .IMP => 0
  | .IMM | .ZP0 | .ZPX | .ZPY | .REL | .IZX | .IZY => 1
  | .ABS | .ABX | .ABY | .IND => 2

/-- The spelling of a mnemonic (30_encoding R114). -/
def mnemonicName (m : Mnemonic) : List Char :=
  match m with
  | .ADC => ['A', 'D', 'C']
  | .AND => ['A', 'N', 'D']
  | .ASL => ['A', 'S', 'L']
  | .BCC => ['B', 'C', 'C']
  | .BCS => ['B', 'C', 'S']
  | .BEQ => ['B', 'E', 'Q']
  | .BIT => ['B', 'I', 'T']
  | .BMI => ['B', 'M', 'I']
  | .BNE => ['B', 'N', 'E']
  | .BPL => ['B', 'P', 'L']
  | .BRK => ['B', 'R', 'K']
  | .BVC => ['B', 'V', 'C']
  | .BVS => ['B', 'V', 'S']
  | .CLC => ['C', 'L', 'C']
  | .CLD => ['C', 'L', 'D']
  | .CLI => ['C', 'L', 'I']
  | .CLV => ['C', 'L', 'V']
  | .CMP => ['C', 'M', 'P']
  | .CPX => ['C', 'P', 'X']
  | .CPY => ['C', 'P', 'Y']
  | .DEC => ['D', 'E', 'C']
  | .DEX => ['D', 'E', 'X']
  | .DEY => ['D', 'E', 'Y']
  | .EOR => ['E', 'O', 'R']
  | .INC => ['I', 'N', 'C']
  | .INX => ['I', 'N', 'X']
  | .INY => ['I', 'N', 'Y']
  | .JMP => ['J', 'M', 'P']
  | .JSR => ['J', 'S', 'R']
  | .LDA => ['L', 'D', 'A']
  | .LDX => ['L', 'D', 'X']
  | .LDY => ['L', 'D', 'Y']
  | .LSR => ['L', 'S', 'R']
  | .NOP => ['N', 'O', 'P']
  | .ORA => ['O', 'R', 'A']
  | .PHA => ['P', 'H', 'A']
  | .PHP => ['P', 'H', 'P']
  | .PLA => ['P', 'L', 'A']
  | .PLP => ['P', 'L', 'P']
  | .ROL => ['R', 'O', 'L']
  | .ROR => ['R', 'O', 'R']
  | .RTI => ['R', 'T', 'I']
  | .RTS => ['R', 'T', 'S']
  | .SBC => ['S', 'B', 'C']
  | .SEC => ['S', 'E', 'C']
  | .SED => ['S', 'E', 'D']
  | .SEI => ['S', 'E', 'I']
  | .STA => ['S', 'T', 'A']
  | .STX => ['S', 'T', 'X']
  | .STY => ['S', 'T', 'Y']
  | .TAX => ['T', 'A', 'X']
  | .TAY => ['T', 'A', 'Y']
  | .TSX => ['T', 'S', 'X']
  | .TXA => ['T', 'X', 'A']
  | .TXS => ['T', 'X', 'S']
  | .TYA => ['T', 'Y', 'A']

/-- The value a documented mnemonic's routine returns as `opcodeExtra` (40_execution R156). -/
def routineExtra (m : Mnemonic) : Bool :=
  match m with
  | .ADC | .AND | .CMP | .EOR | .LDA | .LDX | .LDY | .ORA | .SBC => true
  | _ => false

/-- A documented entry (30_encoding R114). -/
def entry (m : Mnemonic) (mode : Mode) (base : Nat) : Descriptor :=
  { name := mnemonicName m, mode := mode, routine := .of m, baseCycles := base,
    opcodeExtra := routineExtra m, documented := true }

/-- The mnemonic string of most illegal entries (30_encoding R115). -/
def unknownName : List Char := ['?', '?', '?']

/-- The value a stub returns as `opcodeExtra` in an entry of mode `mode`: the lineage's in mode IMP, where it
cannot be observed (40_execution R156), and DOC1's, which is 1, in any other (90_conflicts C9). -/
def stubExtra (r : StubRoutine) (op : Byte) (mode : Mode) : Bool :=
  if mode = .IMP then
    match r with
    | .xxx => false
    | .nop => decide (op ∈ [0x1C, 0x3C, 0x5C, 0x7C, 0xDC, 0xFC])
  else true

/-- A stub as an opcode routine. -/
def boundRoutine (r : StubRoutine) : Routine :=
  match r with
  | .xxx => .xxx
  | .nop => .of .NOP

/-- An illegal entry bound to `XXX` (30_encoding R115). -/
def xxx (base : Nat) : Descriptor :=
  { name := unknownName, mode := .IMP, routine := .xxx, baseCycles := base, opcodeExtra := false,
    documented := false }

/-- An illegal entry bound to `NOP` (30_encoding R115). -/
def nop (base : Nat) : Descriptor :=
  { name := unknownName, mode := .IMP, routine := .of .NOP, baseCycles := base, opcodeExtra := false,
    documented := false }

/-- One of the six illegal entries bound to `NOP` whose routine returns 1 (40_execution R156). -/
def nopExtra (base : Nat) : Descriptor := { nop base with opcodeExtra := true }

/-- One of the two illegal entries bound to `NOP` whose mnemonic string is `NOP` (30_encoding R115). -/
def nopNamed (base : Nat) : Descriptor := { nop base with name := mnemonicName .NOP }

/-- Opcodes 0x00 to 0x0F (30_encoding R114). -/
def tableRow0 : List Descriptor :=
  [entry .BRK .IMP 7, entry .ORA .IZX 6, xxx 2, xxx 8,
   nop 3, entry .ORA .ZP0 3, entry .ASL .ZP0 5, xxx 5,
   entry .PHP .IMP 3, entry .ORA .IMM 2, entry .ASL .IMP 2, xxx 2,
   nop 4, entry .ORA .ABS 4, entry .ASL .ABS 6, xxx 6]

/-- Opcodes 0x10 to 0x1F (30_encoding R114). -/
def tableRow1 : List Descriptor :=
  [entry .BPL .REL 2, entry .ORA .IZY 5, xxx 2, xxx 8,
   nop 4, entry .ORA .ZPX 4, entry .ASL .ZPX 6, xxx 6,
   entry .CLC .IMP 2, entry .ORA .ABY 4, nop 2, xxx 7,
   nopExtra 4, entry .ORA .ABX 4, entry .ASL .ABX 7, xxx 7]

/-- Opcodes 0x20 to 0x2F (30_encoding R114). -/
def tableRow2 : List Descriptor :=
  [entry .JSR .ABS 6, entry .AND .IZX 6, xxx 2, xxx 8,
   entry .BIT .ZP0 3, entry .AND .ZP0 3, entry .ROL .ZP0 5, xxx 5,
   entry .PLP .IMP 4, entry .AND .IMM 2, entry .ROL .IMP 2, xxx 2,
   entry .BIT .ABS 4, entry .AND .ABS 4, entry .ROL .ABS 6, xxx 6]

/-- Opcodes 0x30 to 0x3F (30_encoding R114). -/
def tableRow3 : List Descriptor :=
  [entry .BMI .REL 2, entry .AND .IZY 5, xxx 2, xxx 8,
   nop 4, entry .AND .ZPX 4, entry .ROL .ZPX 6, xxx 6,
   entry .SEC .IMP 2, entry .AND .ABY 4, nop 2, xxx 7,
   nopExtra 4, entry .AND .ABX 4, entry .ROL .ABX 7, xxx 7]

/-- Opcodes 0x40 to 0x4F (30_encoding R114). -/
def tableRow4 : List Descriptor :=
  [entry .RTI .IMP 6, entry .EOR .IZX 6, xxx 2, xxx 8,
   nop 3, entry .EOR .ZP0 3, entry .LSR .ZP0 5, xxx 5,
   entry .PHA .IMP 3, entry .EOR .IMM 2, entry .LSR .IMP 2, xxx 2,
   entry .JMP .ABS 3, entry .EOR .ABS 4, entry .LSR .ABS 6, xxx 6]

/-- Opcodes 0x50 to 0x5F (30_encoding R114). -/
def tableRow5 : List Descriptor :=
  [entry .BVC .REL 2, entry .EOR .IZY 5, xxx 2, xxx 8,
   nop 4, entry .EOR .ZPX 4, entry .LSR .ZPX 6, xxx 6,
   entry .CLI .IMP 2, entry .EOR .ABY 4, nop 2, xxx 7,
   nopExtra 4, entry .EOR .ABX 4, entry .LSR .ABX 7, xxx 7]

/-- Opcodes 0x60 to 0x6F (30_encoding R114). -/
def tableRow6 : List Descriptor :=
  [entry .RTS .IMP 6, entry .ADC .IZX 6, xxx 2, xxx 8,
   nop 3, entry .ADC .ZP0 3, entry .ROR .ZP0 5, xxx 5,
   entry .PLA .IMP 4, entry .ADC .IMM 2, entry .ROR .IMP 2, xxx 2,
   entry .JMP .IND 5, entry .ADC .ABS 4, entry .ROR .ABS 6, xxx 6]

/-- Opcodes 0x70 to 0x7F (30_encoding R114). -/
def tableRow7 : List Descriptor :=
  [entry .BVS .REL 2, entry .ADC .IZY 5, xxx 2, xxx 8,
   nop 4, entry .ADC .ZPX 4, entry .ROR .ZPX 6, xxx 6,
   entry .SEI .IMP 2, entry .ADC .ABY 4, nop 2, xxx 7,
   nopExtra 4, entry .ADC .ABX 4, entry .ROR .ABX 7, xxx 7]

/-- Opcodes 0x80 to 0x8F (30_encoding R114). -/
def tableRow8 : List Descriptor :=
  [nop 2, entry .STA .IZX 6, nop 2, xxx 6,
   entry .STY .ZP0 3, entry .STA .ZP0 3, entry .STX .ZP0 3, xxx 3,
   entry .DEY .IMP 2, nop 2, entry .TXA .IMP 2, xxx 2,
   entry .STY .ABS 4, entry .STA .ABS 4, entry .STX .ABS 4, xxx 4]

/-- Opcodes 0x90 to 0x9F (30_encoding R114). -/
def tableRow9 : List Descriptor :=
  [entry .BCC .REL 2, entry .STA .IZY 6, xxx 2, xxx 6,
   entry .STY .ZPX 4, entry .STA .ZPX 4, entry .STX .ZPY 4, xxx 4,
   entry .TYA .IMP 2, entry .STA .ABY 5, entry .TXS .IMP 2, xxx 5,
   nop 5, entry .STA .ABX 5, xxx 5, xxx 5]

/-- Opcodes 0xA0 to 0xAF (30_encoding R114). -/
def tableRowA : List Descriptor :=
  [entry .LDY .IMM 2, entry .LDA .IZX 6, entry .LDX .IMM 2, xxx 6,
   entry .LDY .ZP0 3, entry .LDA .ZP0 3, entry .LDX .ZP0 3, xxx 3,
   entry .TAY .IMP 2, entry .LDA .IMM 2, entry .TAX .IMP 2, xxx 2,
   entry .LDY .ABS 4, entry .LDA .ABS 4, entry .LDX .ABS 4, xxx 4]

/-- Opcodes 0xB0 to 0xBF (30_encoding R114). -/
def tableRowB : List Descriptor :=
  [entry .BCS .REL 2, entry .LDA .IZY 5, xxx 2, xxx 5,
   entry .LDY .ZPX 4, entry .LDA .ZPX 4, entry .LDX .ZPY 4, xxx 4,
   entry .CLV .IMP 2, entry .LDA .ABY 4, entry .TSX .IMP 2, xxx 4,
   entry .LDY .ABX 4, entry .LDA .ABX 4, entry .LDX .ABY 4, xxx 4]

/-- Opcodes 0xC0 to 0xCF (30_encoding R114). -/
def tableRowC : List Descriptor :=
  [entry .CPY .IMM 2, entry .CMP .IZX 6, nop 2, xxx 8,
   entry .CPY .ZP0 3, entry .CMP .ZP0 3, entry .DEC .ZP0 5, xxx 5,
   entry .INY .IMP 2, entry .CMP .IMM 2, entry .DEX .IMP 2, xxx 2,
   entry .CPY .ABS 4, entry .CMP .ABS 4, entry .DEC .ABS 6, xxx 6]

/-- Opcodes 0xD0 to 0xDF (30_encoding R114). -/
def tableRowD : List Descriptor :=
  [entry .BNE .REL 2, entry .CMP .IZY 5, xxx 2, xxx 8,
   nop 4, entry .CMP .ZPX 4, entry .DEC .ZPX 6, xxx 6,
   entry .CLD .IMP 2, entry .CMP .ABY 4, nopNamed 2, xxx 7,
   nopExtra 4, entry .CMP .ABX 4, entry .DEC .ABX 7, xxx 7]

/-- Opcodes 0xE0 to 0xEF (30_encoding R114). -/
def tableRowE : List Descriptor :=
  [entry .CPX .IMM 2, entry .SBC .IZX 6, nop 2, xxx 8,
   entry .CPX .ZP0 3, entry .SBC .ZP0 3, entry .INC .ZP0 5, xxx 5,
   entry .INX .IMP 2, entry .SBC .IMM 2, entry .NOP .IMP 2, xxx 2,
   entry .CPX .ABS 4, entry .SBC .ABS 4, entry .INC .ABS 6, xxx 6]

/-- Opcodes 0xF0 to 0xFF (30_encoding R114). -/
def tableRowF : List Descriptor :=
  [entry .BEQ .REL 2, entry .SBC .IZY 5, xxx 2, xxx 8,
   nop 4, entry .SBC .ZPX 4, entry .INC .ZPX 6, xxx 6,
   entry .SED .IMP 2, entry .SBC .ABY 4, nopNamed 2, xxx 7,
   nopExtra 4, entry .SBC .ABX 4, entry .INC .ABX 7, xxx 7]

/-- The sixteen rows of the matrix, by high nibble. -/
def tableRow (hi : Nat) : List Descriptor :=
  match hi with
  | 0 => tableRow0
  | 1 => tableRow1
  | 2 => tableRow2
  | 3 => tableRow3
  | 4 => tableRow4
  | 5 => tableRow5
  | 6 => tableRow6
  | 7 => tableRow7
  | 8 => tableRow8
  | 9 => tableRow9
  | 10 => tableRowA
  | 11 => tableRowB
  | 12 => tableRowC
  | 13 => tableRowD
  | 14 => tableRowE
  | _ => tableRowF

/-- `Table[opcode]` (40_execution R140): the descriptor of an opcode byte. -/
def descriptor (op : Byte) : Descriptor := (tableRow (op.toNat / 16)).getD (op.toNat % 16) (xxx 2)

/-- The entry of `ILLEGAL_TABLE` that replaces the default one of an opcode byte, if any (30_encoding R115,
D4). -/
def replacedEntry (c : Config) (op : Byte) : Option IllegalEntry :=
  c.illegalOverrides.find? fun e => e.opcode == op

/-- The entry of an opcode byte: the table's, or the replaced entry of an illegal opcode (30_encoding
R115; `opcodeExtra` by 90_conflicts C9). -/
def tableEntry (c : Config) (op : Byte) : Descriptor :=
  let d := descriptor op
  if d.documented then d
  else
    match replacedEntry c op with
    | some e =>
      { name := e.name, mode := e.mode, routine := boundRoutine e.routine, baseCycles := e.baseCycles,
        opcodeExtra := stubExtra e.routine op e.mode, documented := false }
    | none => d

end Sys2Proof.Machine
end

