-- ==== Sys2Proof/Decode.lean ====
section
/-! DEFINITION. Decoding of bytes (30_encoding R110 to R117), and after it the encoder. Every opcode byte
has an entry, so the only way to fail is to run out of bytes. -/

namespace Sys2Proof

open Machine

/-- Opcodes 0x00 to 0x0F, by low nibble, with the operand bytes `b1`, `b2` (30_encoding R114, R115). -/
def decodeRow0 (lo : Nat) (b1 b2 : Byte) : Instr :=
  match lo with
  | 0 => .brkImp
  | 1 => .oraIzx b1
  | 2 => .ill02
  | 3 => .ill03
  | 4 => .ill04
  | 5 => .oraZp0 b1
  | 6 => .aslZp0 b1
  | 7 => .ill07
  | 8 => .phpImp
  | 9 => .oraImm b1
  | 10 => .aslImp
  | 11 => .ill0B
  | 12 => .ill0C
  | 13 => .oraAbs (wordOf b2 b1)
  | 14 => .aslAbs (wordOf b2 b1)
  | _ => .ill0F

/-- Opcodes 0x10 to 0x1F, by low nibble, with the operand bytes `b1`, `b2` (30_encoding R114, R115). -/
def decodeRow1 (lo : Nat) (b1 b2 : Byte) : Instr :=
  match lo with
  | 0 => .bplRel b1
  | 1 => .oraIzy b1
  | 2 => .ill12
  | 3 => .ill13
  | 4 => .ill14
  | 5 => .oraZpx b1
  | 6 => .aslZpx b1
  | 7 => .ill17
  | 8 => .clcImp
  | 9 => .oraAby (wordOf b2 b1)
  | 10 => .ill1A
  | 11 => .ill1B
  | 12 => .ill1C
  | 13 => .oraAbx (wordOf b2 b1)
  | 14 => .aslAbx (wordOf b2 b1)
  | _ => .ill1F

/-- Opcodes 0x20 to 0x2F, by low nibble, with the operand bytes `b1`, `b2` (30_encoding R114, R115). -/
def decodeRow2 (lo : Nat) (b1 b2 : Byte) : Instr :=
  match lo with
  | 0 => .jsrAbs (wordOf b2 b1)
  | 1 => .andIzx b1
  | 2 => .ill22
  | 3 => .ill23
  | 4 => .bitZp0 b1
  | 5 => .andZp0 b1
  | 6 => .rolZp0 b1
  | 7 => .ill27
  | 8 => .plpImp
  | 9 => .andImm b1
  | 10 => .rolImp
  | 11 => .ill2B
  | 12 => .bitAbs (wordOf b2 b1)
  | 13 => .andAbs (wordOf b2 b1)
  | 14 => .rolAbs (wordOf b2 b1)
  | _ => .ill2F

/-- Opcodes 0x30 to 0x3F, by low nibble, with the operand bytes `b1`, `b2` (30_encoding R114, R115). -/
def decodeRow3 (lo : Nat) (b1 b2 : Byte) : Instr :=
  match lo with
  | 0 => .bmiRel b1
  | 1 => .andIzy b1
  | 2 => .ill32
  | 3 => .ill33
  | 4 => .ill34
  | 5 => .andZpx b1
  | 6 => .rolZpx b1
  | 7 => .ill37
  | 8 => .secImp
  | 9 => .andAby (wordOf b2 b1)
  | 10 => .ill3A
  | 11 => .ill3B
  | 12 => .ill3C
  | 13 => .andAbx (wordOf b2 b1)
  | 14 => .rolAbx (wordOf b2 b1)
  | _ => .ill3F

/-- Opcodes 0x40 to 0x4F, by low nibble, with the operand bytes `b1`, `b2` (30_encoding R114, R115). -/
def decodeRow4 (lo : Nat) (b1 b2 : Byte) : Instr :=
  match lo with
  | 0 => .rtiImp
  | 1 => .eorIzx b1
  | 2 => .ill42
  | 3 => .ill43
  | 4 => .ill44
  | 5 => .eorZp0 b1
  | 6 => .lsrZp0 b1
  | 7 => .ill47
  | 8 => .phaImp
  | 9 => .eorImm b1
  | 10 => .lsrImp
  | 11 => .ill4B
  | 12 => .jmpAbs (wordOf b2 b1)
  | 13 => .eorAbs (wordOf b2 b1)
  | 14 => .lsrAbs (wordOf b2 b1)
  | _ => .ill4F

/-- Opcodes 0x50 to 0x5F, by low nibble, with the operand bytes `b1`, `b2` (30_encoding R114, R115). -/
def decodeRow5 (lo : Nat) (b1 b2 : Byte) : Instr :=
  match lo with
  | 0 => .bvcRel b1
  | 1 => .eorIzy b1
  | 2 => .ill52
  | 3 => .ill53
  | 4 => .ill54
  | 5 => .eorZpx b1
  | 6 => .lsrZpx b1
  | 7 => .ill57
  | 8 => .cliImp
  | 9 => .eorAby (wordOf b2 b1)
  | 10 => .ill5A
  | 11 => .ill5B
  | 12 => .ill5C
  | 13 => .eorAbx (wordOf b2 b1)
  | 14 => .lsrAbx (wordOf b2 b1)
  | _ => .ill5F

/-- Opcodes 0x60 to 0x6F, by low nibble, with the operand bytes `b1`, `b2` (30_encoding R114, R115). -/
def decodeRow6 (lo : Nat) (b1 b2 : Byte) : Instr :=
  match lo with
  | 0 => .rtsImp
  | 1 => .adcIzx b1
  | 2 => .ill62
  | 3 => .ill63
  | 4 => .ill64
  | 5 => .adcZp0 b1
  | 6 => .rorZp0 b1
  | 7 => .ill67
  | 8 => .plaImp
  | 9 => .adcImm b1
  | 10 => .rorImp
  | 11 => .ill6B
  | 12 => .jmpInd (wordOf b2 b1)
  | 13 => .adcAbs (wordOf b2 b1)
  | 14 => .rorAbs (wordOf b2 b1)
  | _ => .ill6F

/-- Opcodes 0x70 to 0x7F, by low nibble, with the operand bytes `b1`, `b2` (30_encoding R114, R115). -/
def decodeRow7 (lo : Nat) (b1 b2 : Byte) : Instr :=
  match lo with
  | 0 => .bvsRel b1
  | 1 => .adcIzy b1
  | 2 => .ill72
  | 3 => .ill73
  | 4 => .ill74
  | 5 => .adcZpx b1
  | 6 => .rorZpx b1
  | 7 => .ill77
  | 8 => .seiImp
  | 9 => .adcAby (wordOf b2 b1)
  | 10 => .ill7A
  | 11 => .ill7B
  | 12 => .ill7C
  | 13 => .adcAbx (wordOf b2 b1)
  | 14 => .rorAbx (wordOf b2 b1)
  | _ => .ill7F

/-- Opcodes 0x80 to 0x8F, by low nibble, with the operand bytes `b1`, `b2` (30_encoding R114, R115). -/
def decodeRow8 (lo : Nat) (b1 b2 : Byte) : Instr :=
  match lo with
  | 0 => .ill80
  | 1 => .staIzx b1
  | 2 => .ill82
  | 3 => .ill83
  | 4 => .styZp0 b1
  | 5 => .staZp0 b1
  | 6 => .stxZp0 b1
  | 7 => .ill87
  | 8 => .deyImp
  | 9 => .ill89
  | 10 => .txaImp
  | 11 => .ill8B
  | 12 => .styAbs (wordOf b2 b1)
  | 13 => .staAbs (wordOf b2 b1)
  | 14 => .stxAbs (wordOf b2 b1)
  | _ => .ill8F

/-- Opcodes 0x90 to 0x9F, by low nibble, with the operand bytes `b1`, `b2` (30_encoding R114, R115). -/
def decodeRow9 (lo : Nat) (b1 b2 : Byte) : Instr :=
  match lo with
  | 0 => .bccRel b1
  | 1 => .staIzy b1
  | 2 => .ill92
  | 3 => .ill93
  | 4 => .styZpx b1
  | 5 => .staZpx b1
  | 6 => .stxZpy b1
  | 7 => .ill97
  | 8 => .tyaImp
  | 9 => .staAby (wordOf b2 b1)
  | 10 => .txsImp
  | 11 => .ill9B
  | 12 => .ill9C
  | 13 => .staAbx (wordOf b2 b1)
  | 14 => .ill9E
  | _ => .ill9F

/-- Opcodes 0xA0 to 0xAF, by low nibble, with the operand bytes `b1`, `b2` (30_encoding R114, R115). -/
def decodeRowA (lo : Nat) (b1 b2 : Byte) : Instr :=
  match lo with
  | 0 => .ldyImm b1
  | 1 => .ldaIzx b1
  | 2 => .ldxImm b1
  | 3 => .illA3
  | 4 => .ldyZp0 b1
  | 5 => .ldaZp0 b1
  | 6 => .ldxZp0 b1
  | 7 => .illA7
  | 8 => .tayImp
  | 9 => .ldaImm b1
  | 10 => .taxImp
  | 11 => .illAB
  | 12 => .ldyAbs (wordOf b2 b1)
  | 13 => .ldaAbs (wordOf b2 b1)
  | 14 => .ldxAbs (wordOf b2 b1)
  | _ => .illAF

/-- Opcodes 0xB0 to 0xBF, by low nibble, with the operand bytes `b1`, `b2` (30_encoding R114, R115). -/
def decodeRowB (lo : Nat) (b1 b2 : Byte) : Instr :=
  match lo with
  | 0 => .bcsRel b1
  | 1 => .ldaIzy b1
  | 2 => .illB2
  | 3 => .illB3
  | 4 => .ldyZpx b1
  | 5 => .ldaZpx b1
  | 6 => .ldxZpy b1
  | 7 => .illB7
  | 8 => .clvImp
  | 9 => .ldaAby (wordOf b2 b1)
  | 10 => .tsxImp
  | 11 => .illBB
  | 12 => .ldyAbx (wordOf b2 b1)
  | 13 => .ldaAbx (wordOf b2 b1)
  | 14 => .ldxAby (wordOf b2 b1)
  | _ => .illBF

/-- Opcodes 0xC0 to 0xCF, by low nibble, with the operand bytes `b1`, `b2` (30_encoding R114, R115). -/
def decodeRowC (lo : Nat) (b1 b2 : Byte) : Instr :=
  match lo with
  | 0 => .cpyImm b1
  | 1 => .cmpIzx b1
  | 2 => .illC2
  | 3 => .illC3
  | 4 => .cpyZp0 b1
  | 5 => .cmpZp0 b1
  | 6 => .decZp0 b1
  | 7 => .illC7
  | 8 => .inyImp
  | 9 => .cmpImm b1
  | 10 => .dexImp
  | 11 => .illCB
  | 12 => .cpyAbs (wordOf b2 b1)
  | 13 => .cmpAbs (wordOf b2 b1)
  | 14 => .decAbs (wordOf b2 b1)
  | _ => .illCF

/-- Opcodes 0xD0 to 0xDF, by low nibble, with the operand bytes `b1`, `b2` (30_encoding R114, R115). -/
def decodeRowD (lo : Nat) (b1 b2 : Byte) : Instr :=
  match lo with
  | 0 => .bneRel b1
  | 1 => .cmpIzy b1
  | 2 => .illD2
  | 3 => .illD3
  | 4 => .illD4
  | 5 => .cmpZpx b1
  | 6 => .decZpx b1
  | 7 => .illD7
  | 8 => .cldImp
  | 9 => .cmpAby (wordOf b2 b1)
  | 10 => .illDA
  | 11 => .illDB
  | 12 => .illDC
  | 13 => .cmpAbx (wordOf b2 b1)
  | 14 => .decAbx (wordOf b2 b1)
  | _ => .illDF

/-- Opcodes 0xE0 to 0xEF, by low nibble, with the operand bytes `b1`, `b2` (30_encoding R114, R115). -/
def decodeRowE (lo : Nat) (b1 b2 : Byte) : Instr :=
  match lo with
  | 0 => .cpxImm b1
  | 1 => .sbcIzx b1
  | 2 => .illE2
  | 3 => .illE3
  | 4 => .cpxZp0 b1
  | 5 => .sbcZp0 b1
  | 6 => .incZp0 b1
  | 7 => .illE7
  | 8 => .inxImp
  | 9 => .sbcImm b1
  | 10 => .nopImp
  | 11 => .illEB
  | 12 => .cpxAbs (wordOf b2 b1)
  | 13 => .sbcAbs (wordOf b2 b1)
  | 14 => .incAbs (wordOf b2 b1)
  | _ => .illEF

/-- Opcodes 0xF0 to 0xFF, by low nibble, with the operand bytes `b1`, `b2` (30_encoding R114, R115). -/
def decodeRowF (lo : Nat) (b1 b2 : Byte) : Instr :=
  match lo with
  | 0 => .beqRel b1
  | 1 => .sbcIzy b1
  | 2 => .illF2
  | 3 => .illF3
  | 4 => .illF4
  | 5 => .sbcZpx b1
  | 6 => .incZpx b1
  | 7 => .illF7
  | 8 => .sedImp
  | 9 => .sbcAby (wordOf b2 b1)
  | 10 => .illFA
  | 11 => .illFB
  | 12 => .illFC
  | 13 => .sbcAbx (wordOf b2 b1)
  | 14 => .incAbx (wordOf b2 b1)
  | _ => .illFF

/-- The instruction of an opcode byte and the operand bytes its mode reads (30_encoding R112, R113). -/
def decodeOp (op b1 b2 : Byte) : Instr :=
  match op.toNat / 16 with
  | 0 => decodeRow0 (op.toNat % 16) b1 b2
  | 1 => decodeRow1 (op.toNat % 16) b1 b2
  | 2 => decodeRow2 (op.toNat % 16) b1 b2
  | 3 => decodeRow3 (op.toNat % 16) b1 b2
  | 4 => decodeRow4 (op.toNat % 16) b1 b2
  | 5 => decodeRow5 (op.toNat % 16) b1 b2
  | 6 => decodeRow6 (op.toNat % 16) b1 b2
  | 7 => decodeRow7 (op.toNat % 16) b1 b2
  | 8 => decodeRow8 (op.toNat % 16) b1 b2
  | 9 => decodeRow9 (op.toNat % 16) b1 b2
  | 10 => decodeRowA (op.toNat % 16) b1 b2
  | 11 => decodeRowB (op.toNat % 16) b1 b2
  | 12 => decodeRowC (op.toNat % 16) b1 b2
  | 13 => decodeRowD (op.toNat % 16) b1 b2
  | 14 => decodeRowE (op.toNat % 16) b1 b2
  | _ => decodeRowF (op.toNat % 16) b1 b2

/-- The number of operand bytes of an opcode byte (30_encoding R111). -/
def operandBytes (op : Byte) : Nat := operandCount (descriptor op).mode

/-- Why a list of bytes begins with no instruction. -/
inductive DecodeError where
  /-- There is no byte. -/
  | noBytes
  /-- The operand bytes of the opcode run out. -/
  | truncated (opcode : Byte)
deriving DecidableEq, Repr

/-- Decodes the instruction at the head of a list of bytes, and gives the rest (30_encoding R110, R113). -/
def decode (bytes : List Byte) : Except DecodeError (Instr × List Byte) :=
  match bytes with
  | [] => .error .noBytes
  | op :: rest =>
    match operandBytes op, rest with
    | 0, _ => .ok (decodeOp op 0 0, rest)
    | 1, b1 :: rest => .ok (decodeOp op b1 0, rest)
    | 2, b1 :: b2 :: rest => .ok (decodeOp op b1 b2, rest)
    | _, _ => .error (.truncated op)

/-- The bytes of a table word, the first at bits 7:0, with zeros above it up to the longest
instruction. -/
def tableBytes (nbits w : Nat) : List Byte :=
  let v := w % 2 ^ nbits
  [BitVec.ofNat 8 v, BitVec.ofNat 8 (v / 256), BitVec.ofNat 8 (v / 65536)]

/-- What the decoder reads from an instruction whose bits are `w`, numbered as spec/opcode_table.json
numbers them, bit 0 the least significant bit of the first byte. -/
def decodeTableWord (nbits w : Nat) : Option Instr :=
  match decode (tableBytes nbits w) with
  | .ok (i, _) => some i
  | .error _ => none

/-- The opcode byte of an instruction (30_encoding R114, R115). -/
def opcodeOf (i : Instr) : Byte :=
  match i with
  | .ldaImm _ => 0xA9
  | .ldaZp0 _ => 0xA5
  | .ldaZpx _ => 0xB5
  | .ldaAbs _ => 0xAD
  | .ldaAbx _ => 0xBD
  | .ldaAby _ => 0xB9
  | .ldaIzx _ => 0xA1
  | .ldaIzy _ => 0xB1
  | .ldxImm _ => 0xA2
  | .ldxZp0 _ => 0xA6
  | .ldxZpy _ => 0xB6
  | .ldxAbs _ => 0xAE
  | .ldxAby _ => 0xBE
  | .ldyImm _ => 0xA0
  | .ldyZp0 _ => 0xA4
  | .ldyZpx _ => 0xB4
  | .ldyAbs _ => 0xAC
  | .ldyAbx _ => 0xBC
  | .staZp0 _ => 0x85
  | .staZpx _ => 0x95
  | .staAbs _ => 0x8D
  | .staAbx _ => 0x9D
  | .staAby _ => 0x99
  | .staIzx _ => 0x81
  | .staIzy _ => 0x91
  | .stxZp0 _ => 0x86
  | .stxZpy _ => 0x96
  | .stxAbs _ => 0x8E
  | .styZp0 _ => 0x84
  | .styZpx _ => 0x94
  | .styAbs _ => 0x8C
  | .taxImp => 0xAA
  | .tayImp => 0xA8
  | .tsxImp => 0xBA
  | .txaImp => 0x8A
  | .txsImp => 0x9A
  | .tyaImp => 0x98
  | .adcImm _ => 0x69
  | .adcZp0 _ => 0x65
  | .adcZpx _ => 0x75
  | .adcAbs _ => 0x6D
  | .adcAbx _ => 0x7D
  | .adcAby _ => 0x79
  | .adcIzx _ => 0x61
  | .adcIzy _ => 0x71
  | .sbcImm _ => 0xE9
  | .sbcZp0 _ => 0xE5
  | .sbcZpx _ => 0xF5
  | .sbcAbs _ => 0xED
  | .sbcAbx _ => 0xFD
  | .sbcAby _ => 0xF9
  | .sbcIzx _ => 0xE1
  | .sbcIzy _ => 0xF1
  | .andImm _ => 0x29
  | .andZp0 _ => 0x25
  | .andZpx _ => 0x35
  | .andAbs _ => 0x2D
  | .andAbx _ => 0x3D
  | .andAby _ => 0x39
  | .andIzx _ => 0x21
  | .andIzy _ => 0x31
  | .oraImm _ => 0x09
  | .oraZp0 _ => 0x05
  | .oraZpx _ => 0x15
  | .oraAbs _ => 0x0D
  | .oraAbx _ => 0x1D
  | .oraAby _ => 0x19
  | .oraIzx _ => 0x01
  | .oraIzy _ => 0x11
  | .eorImm _ => 0x49
  | .eorZp0 _ => 0x45
  | .eorZpx _ => 0x55
  | .eorAbs _ => 0x4D
  | .eorAbx _ => 0x5D
  | .eorAby _ => 0x59
  | .eorIzx _ => 0x41
  | .eorIzy _ => 0x51
  | .bitZp0 _ => 0x24
  | .bitAbs _ => 0x2C
  | .cmpImm _ => 0xC9
  | .cmpZp0 _ => 0xC5
  | .cmpZpx _ => 0xD5
  | .cmpAbs _ => 0xCD
  | .cmpAbx _ => 0xDD
  | .cmpAby _ => 0xD9
  | .cmpIzx _ => 0xC1
  | .cmpIzy _ => 0xD1
  | .cpxImm _ => 0xE0
  | .cpxZp0 _ => 0xE4
  | .cpxAbs _ => 0xEC
  | .cpyImm _ => 0xC0
  | .cpyZp0 _ => 0xC4
  | .cpyAbs _ => 0xCC
  | .incZp0 _ => 0xE6
  | .incZpx _ => 0xF6
  | .incAbs _ => 0xEE
  | .incAbx _ => 0xFE
  | .inxImp => 0xE8
  | .inyImp => 0xC8
  | .decZp0 _ => 0xC6
  | .decZpx _ => 0xD6
  | .decAbs _ => 0xCE
  | .decAbx _ => 0xDE
  | .dexImp => 0xCA
  | .deyImp => 0x88
  | .aslImp => 0x0A
  | .aslZp0 _ => 0x06
  | .aslZpx _ => 0x16
  | .aslAbs _ => 0x0E
  | .aslAbx _ => 0x1E
  | .lsrImp => 0x4A
  | .lsrZp0 _ => 0x46
  | .lsrZpx _ => 0x56
  | .lsrAbs _ => 0x4E
  | .lsrAbx _ => 0x5E
  | .rolImp => 0x2A
  | .rolZp0 _ => 0x26
  | .rolZpx _ => 0x36
  | .rolAbs _ => 0x2E
  | .rolAbx _ => 0x3E
  | .rorImp => 0x6A
  | .rorZp0 _ => 0x66
  | .rorZpx _ => 0x76
  | .rorAbs _ => 0x6E
  | .rorAbx _ => 0x7E
  | .bccRel _ => 0x90
  | .bcsRel _ => 0xB0
  | .beqRel _ => 0xF0
  | .bmiRel _ => 0x30
  | .bneRel _ => 0xD0
  | .bplRel _ => 0x10
  | .bvcRel _ => 0x50
  | .bvsRel _ => 0x70
  | .jmpAbs _ => 0x4C
  | .jmpInd _ => 0x6C
  | .jsrAbs _ => 0x20
  | .rtsImp => 0x60
  | .phaImp => 0x48
  | .phpImp => 0x08
  | .plaImp => 0x68
  | .plpImp => 0x28
  | .clcImp => 0x18
  | .cldImp => 0xD8
  | .cliImp => 0x58
  | .clvImp => 0xB8
  | .secImp => 0x38
  | .sedImp => 0xF8
  | .seiImp => 0x78
  | .brkImp => 0x00
  | .rtiImp => 0x40
  | .nopImp => 0xEA
  | .ill02 => 0x02
  | .ill03 => 0x03
  | .ill04 => 0x04
  | .ill07 => 0x07
  | .ill0B => 0x0B
  | .ill0C => 0x0C
  | .ill0F => 0x0F
  | .ill12 => 0x12
  | .ill13 => 0x13
  | .ill14 => 0x14
  | .ill17 => 0x17
  | .ill1A => 0x1A
  | .ill1B => 0x1B
  | .ill1C => 0x1C
  | .ill1F => 0x1F
  | .ill22 => 0x22
  | .ill23 => 0x23
  | .ill27 => 0x27
  | .ill2B => 0x2B
  | .ill2F => 0x2F
  | .ill32 => 0x32
  | .ill33 => 0x33
  | .ill34 => 0x34
  | .ill37 => 0x37
  | .ill3A => 0x3A
  | .ill3B => 0x3B
  | .ill3C => 0x3C
  | .ill3F => 0x3F
  | .ill42 => 0x42
  | .ill43 => 0x43
  | .ill44 => 0x44
  | .ill47 => 0x47
  | .ill4B => 0x4B
  | .ill4F => 0x4F
  | .ill52 => 0x52
  | .ill53 => 0x53
  | .ill54 => 0x54
  | .ill57 => 0x57
  | .ill5A => 0x5A
  | .ill5B => 0x5B
  | .ill5C => 0x5C
  | .ill5F => 0x5F
  | .ill62 => 0x62
  | .ill63 => 0x63
  | .ill64 => 0x64
  | .ill67 => 0x67
  | .ill6B => 0x6B
  | .ill6F => 0x6F
  | .ill72 => 0x72
  | .ill73 => 0x73
  | .ill74 => 0x74
  | .ill77 => 0x77
  | .ill7A => 0x7A
  | .ill7B => 0x7B
  | .ill7C => 0x7C
  | .ill7F => 0x7F
  | .ill80 => 0x80
  | .ill82 => 0x82
  | .ill83 => 0x83
  | .ill87 => 0x87
  | .ill89 => 0x89
  | .ill8B => 0x8B
  | .ill8F => 0x8F
  | .ill92 => 0x92
  | .ill93 => 0x93
  | .ill97 => 0x97
  | .ill9B => 0x9B
  | .ill9C => 0x9C
  | .ill9E => 0x9E
  | .ill9F => 0x9F
  | .illA3 => 0xA3
  | .illA7 => 0xA7
  | .illAB => 0xAB
  | .illAF => 0xAF
  | .illB2 => 0xB2
  | .illB3 => 0xB3
  | .illB7 => 0xB7
  | .illBB => 0xBB
  | .illBF => 0xBF
  | .illC2 => 0xC2
  | .illC3 => 0xC3
  | .illC7 => 0xC7
  | .illCB => 0xCB
  | .illCF => 0xCF
  | .illD2 => 0xD2
  | .illD3 => 0xD3
  | .illD4 => 0xD4
  | .illD7 => 0xD7
  | .illDA => 0xDA
  | .illDB => 0xDB
  | .illDC => 0xDC
  | .illDF => 0xDF
  | .illE2 => 0xE2
  | .illE3 => 0xE3
  | .illE7 => 0xE7
  | .illEB => 0xEB
  | .illEF => 0xEF
  | .illF2 => 0xF2
  | .illF3 => 0xF3
  | .illF4 => 0xF4
  | .illF7 => 0xF7
  | .illFA => 0xFA
  | .illFB => 0xFB
  | .illFC => 0xFC
  | .illFF => 0xFF

/-- The operand form of an instruction (30_encoding R111, R114). -/
def formOf (i : Instr) : Form :=
  match i with
  | .ldaImm v => .imm v
  | .ldaZp0 ll => .zp0 ll
  | .ldaZpx ll => .zpx ll
  | .ldaAbs addr => .abs addr
  | .ldaAbx addr => .abx addr
  | .ldaAby addr => .aby addr
  | .ldaIzx ll => .izx ll
  | .ldaIzy ll => .izy ll
  | .ldxImm v => .imm v
  | .ldxZp0 ll => .zp0 ll
  | .ldxZpy ll => .zpy ll
  | .ldxAbs addr => .abs addr
  | .ldxAby addr => .aby addr
  | .ldyImm v => .imm v
  | .ldyZp0 ll => .zp0 ll
  | .ldyZpx ll => .zpx ll
  | .ldyAbs addr => .abs addr
  | .ldyAbx addr => .abx addr
  | .staZp0 ll => .zp0 ll
  | .staZpx ll => .zpx ll
  | .staAbs addr => .abs addr
  | .staAbx addr => .abx addr
  | .staAby addr => .aby addr
  | .staIzx ll => .izx ll
  | .staIzy ll => .izy ll
  | .stxZp0 ll => .zp0 ll
  | .stxZpy ll => .zpy ll
  | .stxAbs addr => .abs addr
  | .styZp0 ll => .zp0 ll
  | .styZpx ll => .zpx ll
  | .styAbs addr => .abs addr
  | .taxImp => .imp
  | .tayImp => .imp
  | .tsxImp => .imp
  | .txaImp => .imp
  | .txsImp => .imp
  | .tyaImp => .imp
  | .adcImm v => .imm v
  | .adcZp0 ll => .zp0 ll
  | .adcZpx ll => .zpx ll
  | .adcAbs addr => .abs addr
  | .adcAbx addr => .abx addr
  | .adcAby addr => .aby addr
  | .adcIzx ll => .izx ll
  | .adcIzy ll => .izy ll
  | .sbcImm v => .imm v
  | .sbcZp0 ll => .zp0 ll
  | .sbcZpx ll => .zpx ll
  | .sbcAbs addr => .abs addr
  | .sbcAbx addr => .abx addr
  | .sbcAby addr => .aby addr
  | .sbcIzx ll => .izx ll
  | .sbcIzy ll => .izy ll
  | .andImm v => .imm v
  | .andZp0 ll => .zp0 ll
  | .andZpx ll => .zpx ll
  | .andAbs addr => .abs addr
  | .andAbx addr => .abx addr
  | .andAby addr => .aby addr
  | .andIzx ll => .izx ll
  | .andIzy ll => .izy ll
  | .oraImm v => .imm v
  | .oraZp0 ll => .zp0 ll
  | .oraZpx ll => .zpx ll
  | .oraAbs addr => .abs addr
  | .oraAbx addr => .abx addr
  | .oraAby addr => .aby addr
  | .oraIzx ll => .izx ll
  | .oraIzy ll => .izy ll
  | .eorImm v => .imm v
  | .eorZp0 ll => .zp0 ll
  | .eorZpx ll => .zpx ll
  | .eorAbs addr => .abs addr
  | .eorAbx addr => .abx addr
  | .eorAby addr => .aby addr
  | .eorIzx ll => .izx ll
  | .eorIzy ll => .izy ll
  | .bitZp0 ll => .zp0 ll
  | .bitAbs addr => .abs addr
  | .cmpImm v => .imm v
  | .cmpZp0 ll => .zp0 ll
  | .cmpZpx ll => .zpx ll
  | .cmpAbs addr => .abs addr
  | .cmpAbx addr => .abx addr
  | .cmpAby addr => .aby addr
  | .cmpIzx ll => .izx ll
  | .cmpIzy ll => .izy ll
  | .cpxImm v => .imm v
  | .cpxZp0 ll => .zp0 ll
  | .cpxAbs addr => .abs addr
  | .cpyImm v => .imm v
  | .cpyZp0 ll => .zp0 ll
  | .cpyAbs addr => .abs addr
  | .incZp0 ll => .zp0 ll
  | .incZpx ll => .zpx ll
  | .incAbs addr => .abs addr
  | .incAbx addr => .abx addr
  | .inxImp => .imp
  | .inyImp => .imp
  | .decZp0 ll => .zp0 ll
  | .decZpx ll => .zpx ll
  | .decAbs addr => .abs addr
  | .decAbx addr => .abx addr
  | .dexImp => .imp
  | .deyImp => .imp
  | .aslImp => .imp
  | .aslZp0 ll => .zp0 ll
  | .aslZpx ll => .zpx ll
  | .aslAbs addr => .abs addr
  | .aslAbx addr => .abx addr
  | .lsrImp => .imp
  | .lsrZp0 ll => .zp0 ll
  | .lsrZpx ll => .zpx ll
  | .lsrAbs addr => .abs addr
  | .lsrAbx addr => .abx addr
  | .rolImp => .imp
  | .rolZp0 ll => .zp0 ll
  | .rolZpx ll => .zpx ll
  | .rolAbs addr => .abs addr
  | .rolAbx addr => .abx addr
  | .rorImp => .imp
  | .rorZp0 ll => .zp0 ll
  | .rorZpx ll => .zpx ll
  | .rorAbs addr => .abs addr
  | .rorAbx addr => .abx addr
  | .bccRel rr => .rel rr
  | .bcsRel rr => .rel rr
  | .beqRel rr => .rel rr
  | .bmiRel rr => .rel rr
  | .bneRel rr => .rel rr
  | .bplRel rr => .rel rr
  | .bvcRel rr => .rel rr
  | .bvsRel rr => .rel rr
  | .jmpAbs addr => .abs addr
  | .jmpInd ptr => .ind ptr
  | .jsrAbs addr => .abs addr
  | .rtsImp => .imp
  | .phaImp => .imp
  | .phpImp => .imp
  | .plaImp => .imp
  | .plpImp => .imp
  | .clcImp => .imp
  | .cldImp => .imp
  | .cliImp => .imp
  | .clvImp => .imp
  | .secImp => .imp
  | .sedImp => .imp
  | .seiImp => .imp
  | .brkImp => .imp
  | .rtiImp => .imp
  | .nopImp => .imp
  | .ill02 | .ill03 | .ill04 | .ill07 | .ill0B | .ill0C | .ill0F | .ill12
  | .ill13 | .ill14 | .ill17 | .ill1A | .ill1B | .ill1C | .ill1F | .ill22
  | .ill23 | .ill27 | .ill2B | .ill2F | .ill32 | .ill33 | .ill34 | .ill37
  | .ill3A | .ill3B | .ill3C | .ill3F | .ill42 | .ill43 | .ill44 | .ill47
  | .ill4B | .ill4F | .ill52 | .ill53 | .ill54 | .ill57 | .ill5A | .ill5B
  | .ill5C | .ill5F | .ill62 | .ill63 | .ill64 | .ill67 | .ill6B | .ill6F
  | .ill72 | .ill73 | .ill74 | .ill77 | .ill7A | .ill7B | .ill7C | .ill7F
  | .ill80 | .ill82 | .ill83 | .ill87 | .ill89 | .ill8B | .ill8F | .ill92
  | .ill93 | .ill97 | .ill9B | .ill9C | .ill9E | .ill9F | .illA3 | .illA7
  | .illAB | .illAF | .illB2 | .illB3 | .illB7 | .illBB | .illBF | .illC2
  | .illC3 | .illC7 | .illCB | .illCF | .illD2 | .illD3 | .illD4 | .illD7
  | .illDA | .illDB | .illDC | .illDF | .illE2 | .illE3 | .illE7 | .illEB
  | .illEF | .illF2 | .illF3 | .illF4 | .illF7 | .illFA | .illFB | .illFC
  | .illFF => .imp

/-- The operand bytes of a form, in memory order (30_encoding R112). -/
def operandList (f : Form) : List Byte :=
  match f with
  | .imp => []
  | .imm b | .zp0 b | .zpx b | .zpy b | .rel b | .izx b | .izy b => [b]
  | .abs w | .abx w | .aby w | .ind w => [loByte w, hiByte w]

/-- The bytes of an instruction, the opcode first (30_encoding R110 to R112). -/
def encode (i : Instr) : List Byte := opcodeOf i :: operandList (formOf i)

/-- The documented instructions, all but the stubs of 30_encoding R115. -/
def documented (i : Instr) : Bool := (descriptor (opcodeOf i)).documented

/-- The length of an instruction in bytes (30_encoding R111). -/
def lengthOf (i : Instr) : Nat := 1 + operandCount (modeOf (formOf i))

end Sys2Proof
end

