-- ==== Sys2Proof/Machine/Memory.lean ====
section
/-! DEFINITION. Reading and writing one byte of a backing store held as a canonical list of cells. An
offset that no cell lists reads as 0x00: RAM by `RAM_INIT`'s default, the picture-unit register RAM and
character RAM by 10_state R43, R45 (log 8). -/

namespace Sys2Proof

/-- The byte at an offset. -/
def Memory.read (m : Memory) (k : Nat) : Byte :=
  match m with
  | [] => 0
  | (j, v) :: rest => if j = k then v else Memory.read rest k

/-- The cell to list for byte `v` at offset `k`: none for the byte an unlisted offset reads as. -/
def Memory.cell (k : Nat) (v : Byte) : Memory := if v = 0 then [] else [(k, v)]

/-- The store with byte `v` at offset `k`, still in the canonical form. -/
def Memory.write (m : Memory) (k : Nat) (v : Byte) : Memory :=
  match m with
  | [] => Memory.cell k v
  | (j, u) :: rest =>
    if k < j then Memory.cell k v ++ (j, u) :: rest
    else if j = k then Memory.cell k v ++ rest
    else (j, u) :: Memory.write rest k v

/-- The cells of a list of bytes, the first at offset `k`. -/
def Memory.ofBytes (k : Nat) (bytes : List Byte) : Memory :=
  match bytes with
  | [] => []
  | v :: rest => Memory.cell k v ++ Memory.ofBytes (k + 1) rest

/-- Every listed offset is at least `lo`, offsets rise strictly, and no listed byte is 0x00. -/
def Memory.canonicalFrom (lo : Nat) (m : Memory) : Bool :=
  match m with
  | [] => true
  | (j, v) :: rest => decide (lo ≤ j) && v != 0 && Memory.canonicalFrom (j + 1) rest

/-- The canonical form: offsets strictly rising, no entry equal to what an unlisted offset reads as. -/
def Memory.wf (m : Memory) : Bool := Memory.canonicalFrom 0 m

/-- Every listed offset lies below `size`: the store holds nothing outside itself. -/
def Memory.within (size : Nat) (m : Memory) : Bool := m.all fun c => decide (c.1 < size)

end Sys2Proof
end

