-- ==== Sys2Proof/Machine/State.lean ====
section
/-! DEFINITION. The state of the machine (10_state R48), the reasons a step can stop, the host's actions,
and the state after reset. Plain data throughout. -/

namespace Sys2Proof.Machine

/-- The cartridge header record, as loaded (10_state R41; layout 20_memory R84). The trainer flag, the
mapper id and the selected mapper are functions of `mapperOne` and `mapperTwo` (log 12). -/
structure Header where
  name : Byte × Byte × Byte
  prgBanks : Byte
  chrBanks : Byte
  mapperOne : Byte
  mapperTwo : Byte
  prgRamSize : Byte
  tvSystem : Byte × Byte
deriving DecidableEq, Repr

/-- A loaded cartridge: its header and its two images (10_state R41 to R43). -/
structure Cartridge where
  header : Header
  prg : Memory
  chr : Memory
deriving DecidableEq, Repr

/-- The mapper registry: the mappers that have an implementation (20_memory R86; 00_scope R3). -/
inductive Mapper where
  | mapper0
deriving DecidableEq, Repr

/-- What an action of the machine can fail with. -/
inductive Fault where
  /-- `MapperUnavailable(addr)` (20_memory R71): raised by every bus access, CPU side or picture-unit
  side, while a cartridge whose mapper id has no implementation is in the slot. Fatal; the action does
  not complete and no state survives it (D20). Safe: the machine too goes no further. -/
  | mapperUnavailable (addr : Word)
deriving DecidableEq, Repr

/-- Why the model has no meaning for an instruction. -/
inductive Refusal where
  /-- Raised by an arm of `exec` whose instruction has no meaning yet; no arm of this model does so.
  Safe: nothing can be proved of a run that stops here. -/
  | notModelled (mnemonic : String)
deriving DecidableEq, Repr

/-- The host's actions (60_exceptions R298). -/
inductive HostAction where
  /-- Clock until an instruction has completed (R295 (b)). -/
  | stepInstruction
  | busClock
  | busReset
  | cpuClock
  | cpuReset
  | irq
  | nmi
  | ppuClock
  | clearFrameComplete
  | loadCartridge (bytes : List Byte)
  | insertCartridge (c : Cartridge)
  | busRead (a : Word) (readOnly : Bool)
  | busWrite (a : Word) (v : Byte)
  | ppuRead (a : Word) (readOnly : Bool)
  | ppuWrite (a : Word) (v : Byte)
  | snapshot
  | disassemble (start stop : Word)
deriving DecidableEq, Repr

/-- The whole state (10_state R48), the parameters of the machine (00_scope R5) and the host's next
actions. -/
structure State where
  /-- The accumulator (10_state R20). -/
  a : Byte
  /-- Index register X (10_state R21). -/
  x : Byte
  /-- Index register Y (10_state R22). -/
  y : Byte
  /-- The stack pointer (10_state R23). -/
  sp : Byte
  /-- The program counter (10_state R24). -/
  pc : Word
  /-- The status register, C Z I D B U V N from bit 0 (10_state R25). -/
  p : Byte
  /-- The pending-cycle counter (10_state R35). -/
  cycles : Nat
  /-- The completed-instruction flag (10_state R36). -/
  isCompleteCycle : Bool
  /-- Scratch: the opcode byte last fetched (10_state R37). -/
  opcode : Byte
  /-- Scratch: the operand byte last obtained (10_state R37). -/
  fetched : Byte
  /-- Scratch: the effective address last resolved (10_state R37). -/
  addrAbs : Word
  /-- Scratch: the branch offset last resolved (10_state R37). -/
  addrRel : Word
  /-- The 2048 bytes of RAM (10_state R38). -/
  ram : Memory
  /-- The bus's clock counter (10_state R39). -/
  busClockCounter : Nat
  /-- The cartridge slot (10_state R40). -/
  cart : Option Cartridge
  /-- The 8-byte picture-unit register RAM (10_state R45). -/
  ppuReg : Memory
  /-- 0 to 340 (10_state R46). -/
  ppuCycle : Nat
  /-- -1 to 260 (10_state R46). -/
  ppuScanline : Int
  /-- The frame-complete signal (10_state R47). -/
  frameComplete : Bool
  /-- The machine's parameters (00_scope R5); no step writes them (log 1). -/
  cfg : Config
  /-- The MODEL's field: the host's next actions, first first (log 3). -/
  script : List HostAction
deriving DecidableEq, Repr

/-- What the registers hold at power-on, before any reset: nothing fixes it (70_reset_and_hazards R322,
U1). -/
structure PowerOnRegisters where
  a : Byte
  x : Byte
  y : Byte
  sp : Byte
  pc : Word
  p : Byte
  opcode : Byte
  fetched : Byte
  addrAbs : Word
  addrRel : Word
deriving DecidableEq, Repr

/-- The power-on state of a machine with parameters `c` whose registers came up as `u`
(70_reset_and_hazards R322, 10_state R48). -/
def State.powerOn (c : Config) (u : PowerOnRegisters) : State where
  a := u.a
  x := u.x
  y := u.y
  sp := u.sp
  pc := u.pc
  p := u.p
  cycles := 0
  isCompleteCycle := false
  opcode := u.opcode
  fetched := u.fetched
  addrAbs := u.addrAbs
  addrRel := u.addrRel
  ram := c.ramInit
  busClockCounter := 0
  cart := none
  ppuReg := []
  ppuCycle := c.ppuInitCycle
  ppuScanline := c.ppuInitScanline
  frameComplete := false
  cfg := c
  script := []

/-- The machine right after reset: power-on with the default parameters and an empty slot, then
`BusReset` (70_reset_and_hazards R320 to R322; log 2). `opcode`, which no reset writes, is a
DESIGN CHOICE (log 4), and so is the empty script (log 3). -/
def State.reset : State where
  a := 0
  x := 0
  y := 0
  sp := 0xFD
  pc := 0
  p := 0x20
  cycles := 8
  isCompleteCycle := false
  opcode := 0
  fetched := 0
  addrAbs := 0
  addrRel := 0
  ram := []
  busClockCounter := 0
  cart := none
  ppuReg := []
  ppuCycle := 0
  ppuScanline := 0
  frameComplete := false
  cfg := {}
  script := []

end Sys2Proof.Machine
end

