-- ==== Sys2Proof/Machine/Cartridge.lean ====
section
/-! DEFINITION. The cartridge: the header's derived fields, mapper 0's address translation, and the
loader (20_memory R67 to R70, R84 to R88). -/

namespace Sys2Proof.Machine

/-- `trainerPresent`, bit 2 of header byte 6 (20_memory R85). -/
def Header.trainerPresent (h : Header) : Bool := h.mapperOne.getLsbD 2

/-- `mapperId` (20_memory R86). -/
def Header.mapperId (h : Header) : Byte := ((h.mapperTwo >>> 4) <<< 4) ||| (h.mapperOne >>> 4)

/-- The mapper the registry selects: mapper 0 for id 0, else none (20_memory R86). -/
def Header.mapper (h : Header) : Option Mapper := if h.mapperId = 0 then some .mapper0 else none

/-- The length of the program image in bytes (10_state R42). -/
def Header.prgSize (h : Header) : Nat := h.prgBanks.toNat * 16384

/-- The length of the character image in bytes: one bank of RAM when no bank is declared (10_state
R43). -/
def Header.chrSize (h : Header) : Nat := max h.chrBanks.toNat 1 * 8192

/-- `MapCpu`: mapper 0's program-memory offset for a CPU address it claims (20_memory R68). -/
def mapCpu (h : Header) (a : Word) : Option Nat :=
  if 0x8000 ≤ a.toNat then
    some (a &&& (if 1 < h.prgBanks.toNat then 0x7FFF else 0x3FFF)).toNat
  else none

/-- `MapPpuRead`: mapper 0's character-memory offset for a picture-unit read (20_memory R69). -/
def mapPpuRead (a : Word) : Option Nat := if a.toNat ≤ 0x1FFF then some a.toNat else none

/-- `MapPpuWrite`: the same for a write, claimed only by character RAM (20_memory R70). -/
def mapPpuWrite (h : Header) (a : Word) : Option Nat :=
  if a.toNat ≤ 0x1FFF ∧ h.chrBanks = 0 then some a.toNat else none

/-- The images lie within their lengths, in canonical form, and there is a program bank: what the
loader makes and every action keeps (20_memory R87, R88, D12). -/
def Cartridge.wf (c : Cartridge) : Bool :=
  decide (0 < c.header.prgBanks.toNat) &&
  (c.prg.wf && c.prg.within c.header.prgSize) &&
  (c.chr.wf && c.chr.within c.header.chrSize)

/-- Why a load fails (20_memory R88). -/
inductive LoadError where
  /-- The input is shorter than the header, the trainer and the declared banks. -/
  | readError
  /-- The header declares no program bank (D12). -/
  | noProgramBanks
deriving DecidableEq, Repr

/-- The header record of the first 16 bytes; `none` when there are fewer (20_memory R84). -/
def parseHeader (bytes : List Byte) : Option Header :=
  match bytes with
  | b0 :: b1 :: b2 :: _ :: b4 :: b5 :: b6 :: b7 :: b8 :: b9 :: b10 :: _ :: _ :: _ :: _ :: _ :: _ =>
    some { name := (b0, b1, b2), prgBanks := b4, chrBanks := b5, mapperOne := b6, mapperTwo := b7,
           prgRamSize := b8, tvSystem := (b9, b10) }
  | _ => none

/-- The offset of the program image in the file (20_memory R85, R87). -/
def Header.imageBase (h : Header) : Nat := 16 + (if h.trainerPresent then 512 else 0)

/-- `LoadCartridge` (20_memory R84 to R88): the whole cartridge or a failure, never part of one. -/
def loadCartridge (bytes : List Byte) : Except LoadError Cartridge :=
  match parseHeader bytes with
  | none => .error .readError
  | some h =>
    if h.prgBanks = 0 then .error .noProgramBanks
    else if bytes.length < h.imageBase + h.prgSize + h.chrBanks.toNat * 8192 then .error .readError
    else
      .ok { header := h
            prg := Memory.ofBytes 0 ((bytes.drop h.imageBase).take h.prgSize)
            chr := Memory.ofBytes 0
              ((bytes.drop (h.imageBase + h.prgSize)).take (h.chrBanks.toNat * 8192)) }

end Sys2Proof.Machine
end

