-- ==== Sys2Proof/Machine/Flags.lean ====
section
/-! DEFINITION. The status register's flags (10_state R25 to R33), `SetZN` (40_execution R155), and
every flag computation of the instruction rules. -/

namespace Sys2Proof.Machine

/-- The eight flags of P (10_state R25). -/
inductive Flag where
  | C | Z | I | D | B | U | V | N
deriving DecidableEq, Repr

/-- The bit of P that a flag is (10_state R25, D2). -/
def Flag.bit : Flag → Nat
  | .C => 0
  | .Z => 1
  | .I => 2
  | .D => 3
  | .B => 4
  | .U => 5
  | .V => 6
  | .N => 7

/-- The mask of a flag (10_state R25). -/
def Flag.mask (f : Flag) : Byte := BitVec.twoPow 8 f.bit

/-- `getFlag` (10_state R25). -/
def getFlag (p : Byte) (f : Flag) : Bool := p.getLsbD f.bit

/-- `setFlag` (10_state R25): only the flag's bit is written. -/
def setFlag (p : Byte) (f : Flag) (v : Bool) : Byte := if v then p ||| f.mask else p &&& ~~~f.mask

/-- `P.f` of a state. -/
def State.flag (s : State) (f : Flag) : Bool := getFlag s.p f

/-- `P.f <- v`. -/
def State.setFlag (s : State) (f : Flag) (v : Bool) : State := { s with p := Machine.setFlag s.p f v }

/-- `SetZN(v)` (40_execution R155). -/
def State.setZN (s : State) (v : Byte) : State := (s.setFlag .Z (v == 0)).setFlag .N (bit7 v)

/-- The result and the four flags of the adder (42_arithmetic_logic R205). -/
structure AluOut where
  result : Byte
  c : Bool
  z : Bool
  v : Bool
  n : Bool
deriving DecidableEq, Repr

/-- The adder of ADC (42_arithmetic_logic R190): the exact sum, then the byte and the flags. Overflow
by comparison of the signs. -/
def addWithCarry (a m : Byte) (c : Bool) : AluOut :=
  let t := a.toNat + m.toNat + c.toNat
  let r := BitVec.ofNat 8 t
  { result := r
    c := decide (t > 0xFF)
    z := r == 0
    v := (bit7 a == bit7 m) && (bit7 a != bit7 r)
    n := bit7 r }

/-- Overflow by the exclusive-or form (42_arithmetic_logic R206). -/
def overflowXor (a m t : Byte) : Bool := ((~~~(a ^^^ m)) &&& (a ^^^ t) &&& 0x80) != 0

/-- The adder of SBC: the operand complemented, the carry as it is (42_arithmetic_logic R191). -/
def subWithCarry (a m : Byte) (c : Bool) : AluOut := addWithCarry a (m ^^^ 0xFF) c

/-- The adder's result into A and its flags into P (42_arithmetic_logic R190). -/
def State.setAlu (s : State) (o : AluOut) : State :=
  { (s.setFlag .C o.c |>.setFlag .Z o.z |>.setFlag .V o.v |>.setFlag .N o.n) with a := o.result }

/-- The flags of a compare of register value `r` with `m` (42_arithmetic_logic R195). -/
def State.setCompare (s : State) (r m : Byte) : State :=
  (s.setFlag .C (decide (m.toNat ≤ r.toNat))).setZN (r - m)

end Sys2Proof.Machine
end

