-- ==== Sys2Proof/Machine/Ops.lean ====
section
/-! DEFINITION. The operations over memory and registers that every instruction and host action is made
of: the bus arbiter, the picture unit's bus, the stack, taking an exception and returning from one, and
the two resets. -/

namespace Sys2Proof.Machine

/-- The cell a CPU bus address names. -/
inductive Target where
  | ram (k : Nat)
  | ppuReg (k : Nat)
  | prg (k : Nat)
  | unmapped
deriving DecidableEq, Repr

/-- What answers an address that no mapper claims: the RAM mirror, the picture-unit register mirror, or
nothing (20_memory R63 to R65). -/
def windowTarget (a : Word) : Target :=
  if a.toNat ≤ 0x1FFF then .ram (a &&& 0x07FF).toNat
  else if a.toNat ≤ 0x3FFF then .ppuReg (a &&& 0x0007).toNat
  else .unmapped

/-- The bus's address decode, the cartridge first (20_memory R61, R62, R67). With a cartridge whose
mapper has no implementation every address raises `MapperUnavailable` (R71). -/
def busDecode (s : State) (a : Word) : Except Fault Target :=
  match s.cart with
  | none => .ok (windowTarget a)
  | some c =>
    match c.header.mapper with
    | none => .error (.mapperUnavailable a)
    | some .mapper0 =>
      match mapCpu c.header a with
      | some off => .ok (.prg off)
      | none => .ok (windowTarget a)

/-- The byte of a cell (20_memory R61, R65). -/
def readTarget (s : State) (t : Target) : Byte :=
  match t with
  | .ram k => s.ram.read k
  | .ppuReg k => s.ppuReg.read k
  | .prg k => match s.cart with
    | some c => c.prg.read k
    | none => 0
  | .unmapped => 0

/-- The state with byte `v` in a cell; program memory takes it when `PRG_WRITABLE` holds, and an unmapped
address drops it (20_memory R62, R65, R67). -/
def writeTarget (s : State) (t : Target) (v : Byte) : State :=
  match t with
  | .ram k => { s with ram := s.ram.write k v }
  | .ppuReg k => { s with ppuReg := s.ppuReg.write k v }
  | .prg k =>
    if s.cfg.prgWritable then
      { s with cart := s.cart.map fun c => { c with prg := c.prg.write k v } }
    else s
  | .unmapped => s

/-- `BusRead(addr, readOnly)`; the flag makes no difference in this hardware (20_memory R61, R66). -/
def busRead (s : State) (a : Word) (_readOnly : Bool) : Except Fault Byte := do
  let t ← busDecode s a
  return readTarget s t

/-- `BusWrite(addr, data)` (20_memory R62). -/
def busWrite (s : State) (a : Word) (v : Byte) : Except Fault State := do
  let t ← busDecode s a
  return writeTarget s t v

/-- `MemRead(a, 1)` (20_memory R76). -/
def memRead (s : State) (a : Word) : Except Fault Byte := busRead s a false

/-- `MemWrite(a, 1, v)` (20_memory R76). -/
def memWrite (s : State) (a : Word) (v : Byte) : Except Fault State := busWrite s a v

/-- `Read16(a)`: the low byte first, the second address wrapping (20_memory R74). -/
def read16 (s : State) (a : Word) : Except Fault Word := do
  let lo ← memRead s a
  let hi ← memRead s (a + 1)
  return wordOf hi lo

/-- `PpuRead(addr, readOnly)` (20_memory R72). -/
def ppuRead (s : State) (addr : Word) (_readOnly : Bool) : Except Fault Byte :=
  let a := addr &&& s.cfg.ppuBusMask
  match s.cart with
  | none => .ok 0
  | some c =>
    match c.header.mapper with
    | none => .error (.mapperUnavailable a)
    | some .mapper0 =>
      match mapPpuRead a with
      | some off => .ok (c.chr.read off)
      | none => .ok 0

/-- `PpuWrite(addr, data)` (20_memory R72). -/
def ppuWrite (s : State) (addr : Word) (v : Byte) : Except Fault State :=
  let a := addr &&& s.cfg.ppuBusMask
  match s.cart with
  | none => .ok s
  | some c =>
    match c.header.mapper with
    | none => .error (.mapperUnavailable a)
    | some .mapper0 =>
      match mapPpuWrite c.header a with
      | some off => .ok { s with cart := some { c with chr := c.chr.write off v } }
      | none => .ok s

/-- The bus address of the stack location that a stack pointer names (20_memory R79). -/
def stackAddr (sp : Byte) : Word := 0x0100 + zeroExtend sp

/-- `Push(v)` (20_memory R79). -/
def push (s : State) (v : Byte) : Except Fault State := do
  let t ← memWrite s (stackAddr s.sp) v
  return { t with sp := t.sp - 1 }

/-- `Pull()` (20_memory R79). -/
def pull (s : State) : Except Fault (State × Byte) := do
  let t := { s with sp := s.sp + 1 }
  let v ← memRead t (stackAddr t.sp)
  return (t, v)

/-- Pushes a word, the high byte first, so that the low byte lies at the lower address (20_memory R73,
44_control_flow R240, 60_exceptions R281). -/
def pushWord (s : State) (w : Word) : Except Fault State := do
  let t ← push s (hiByte w)
  push t (loByte w)

/-- Pulls a word, the low byte first (44_control_flow R241, 45_stack_flags_system R262). -/
def pullWord (s : State) : Except Fault (State × Word) := do
  let (s, lo) ← pull s
  let (s, hi) ← pull s
  return (s, wordOf hi lo)

/-- The status byte that an entry pushes: Unused set, Break set for BRK and clear for IRQ and NMI
(10_state R30, R31). -/
def pushedStatus (p : Byte) (brk : Bool) : Byte := setFlag (setFlag p .U true) .B brk

/-- TAKING AN EXCEPTION, the one entry of IRQ, NMI and BRK (60_exceptions R281, R282;
45_stack_flags_system R261): the return address and the status byte are pushed, Break is cleared and
Unused set in the live status, Interrupt-disable is set, and PC takes the handler's address from the
vector. `brk` says that BRK is the cause. -/
def takeException (s : State) (brk : Bool) (returnPc : Word) (vector : Word) : Except Fault State := do
  let s ← pushWord s returnPc
  let s ← push s (pushedStatus s.p brk)
  let s := ((s.setFlag .B false).setFlag .U true).setFlag .I true
  let target ← read16 s vector
  return { s with pc := target }

/-- THE RETURN FROM AN EXCEPTION (45_stack_flags_system R262): the status with Break cleared and Unused
set, then PC, low byte first. -/
def returnFromException (s : State) : Except Fault State := do
  let (s, v) ← pull s
  let s := { s with p := setFlag (setFlag v .B false) .U true }
  let (s, target) ← pullWord s
  return { s with pc := target }

/-- The NMI vector (60_exceptions R283). -/
def nmiVector : Word := 0xFFFA

/-- The reset vector (60_exceptions R283). -/
def resetVector : Word := 0xFFFC

/-- The IRQ and BRK vector (60_exceptions R283, C2). -/
def irqVector : Word := 0xFFFE

/-- `Irq()` (60_exceptions R281): ignored while `P.I` is set. -/
def irq (s : State) : Except Fault State :=
  if s.flag .I then .ok s
  else do
    let s ← takeException s false s.pc irqVector
    return { s with addrAbs := irqVector, cycles := 7 }

/-- `Nmi()` (60_exceptions R282). -/
def nmi (s : State) : Except Fault State := do
  let s ← takeException s false s.pc nmiVector
  return { s with addrAbs := nmiVector, cycles := 8 }

/-- `CpuReset()` (70_reset_and_hazards R320). -/
def cpuReset (s : State) : Except Fault State := do
  let target ← read16 s resetVector
  return { s with a := 0, x := 0, y := 0, sp := 0xFD, p := 0x20, pc := target,
                  addrAbs := 0, addrRel := 0, fetched := 0, cycles := 8 }

/-- `BusReset()` (70_reset_and_hazards R321). -/
def busReset (s : State) : Except Fault State := do
  let s ← cpuReset s
  return { s with busClockCounter := 0 }

/-- The outcome of an action that may fault. -/
def outcomeOf (r : Except Fault State) : Host.Outcome State Fault Refusal :=
  match r with
  | .ok s => .next s
  | .error f => .fault f

end Sys2Proof.Machine
end

