-- ==== Sys2Proof/Machine/Operands.lean ====
section
/-! DEFINITION. The twelve addressing modes, the operand fetch and the write-back (40_execution R142 to
R154, 43_shift_rotate), and the fetch tick around an opcode routine (R140). -/

namespace Sys2Proof.Machine

/-- The addressing routine's result for an indexed word: the sum modulo 2^16, and whether it left the
page of the base (40_execution R150, R151, R154). -/
def indexed (base : Word) (index : Byte) : Word × Bool :=
  let a := base + zeroExtend index
  (a, page a != page base)

/-- The word at two addresses, low byte first. -/
def readPointer (s : State) (loAddr hiAddr : Word) : Except Fault Word := do
  let lo ← memRead s loAddr
  let hi ← memRead s hiAddr
  return wordOf hi lo

/-- What a mode's routine leaves in `addrAbs`, and the 0 or 1 it returns (40_execution R143 to R154). The
state's PC is the address of the byte after the opcode. IMP and REL leave `addrAbs` as it was. -/
def effectiveAddress (f : Form) (s : State) : Except Fault (Word × Bool) :=
  match f with
  | .imp => .ok (s.addrAbs, false)
  | .rel _ => .ok (s.addrAbs, false)
  | .imm _ => .ok (s.pc, false)
  | .zp0 ll => .ok (zeroExtend ll, false)
  | .zpx ll => .ok (zeroExtend (ll + s.x), false)
  | .zpy ll => .ok (zeroExtend (ll + s.y), false)
  | .abs addr => .ok (addr, false)
  | .abx addr => .ok (indexed addr s.x)
  | .aby addr => .ok (indexed addr s.y)
  | .ind ptr => do
    let a ← readPointer s ptr (if loByte ptr = 0xFF then page ptr else ptr + 1)
    return (a, false)
  | .izx ll => do
    let a ← readPointer s (zeroExtend (ll + s.x)) (zeroExtend (ll + s.x + 1))
    return (a, false)
  | .izy ll => do
    let base ← readPointer s (zeroExtend ll) (zeroExtend (ll + 1))
    return indexed base s.y

/-- The operand form of mode `m` whose operand bytes stand at PC. -/
def fetchForm (m : Mode) (s : State) : Except Fault Form :=
  match m with
  | .IMP => .ok .imp
  | .IMM => do return .imm (← memRead s s.pc)
  | .ZP0 => do return .zp0 (← memRead s s.pc)
  | .ZPX => do return .zpx (← memRead s s.pc)
  | .ZPY => do return .zpy (← memRead s s.pc)
  | .REL => do return .rel (← memRead s s.pc)
  | .ABS => do return .abs (← read16 s s.pc)
  | .ABX => do return .abx (← read16 s s.pc)
  | .ABY => do return .aby (← read16 s s.pc)
  | .IND => do return .ind (← read16 s s.pc)
  | .IZX => do return .izx (← memRead s s.pc)
  | .IZY => do return .izy (← memRead s s.pc)

/-- The addressing routine (40_execution R143 to R154): `addrAbs`, or `addrRel` in REL mode, or
`fetched` in IMP mode is written, PC moves past the operand bytes, and the 0 or 1 is returned. -/
def resolve (f : Form) (s : State) : Except Fault (State × Bool) :=
  match f with
  | .imp => .ok ({ s with fetched := s.a }, false)
  | .rel rr => .ok ({ s with addrRel := signExtend rr, pc := s.pc + 1 }, false)
  | f => do
    let (a, cross) ← effectiveAddress f s
    return ({ s with addrAbs := a, pc := s.pc + BitVec.ofNat 16 (operandCount (modeOf f)) }, cross)

/-- `Operand()` (40_execution R142): the byte at `addrAbs`, or in IMP mode what the routine put into
`fetched`. An immediate byte is the one the decoder took from `addrAbs` (log 5). -/
def operand (f : Form) (s : State) : Except Fault (State × Byte) :=
  match f with
  | .imp => .ok (s, s.fetched)
  | .imm v => .ok ({ s with fetched := v }, v)
  | _ => do
    let v ← memRead s s.addrAbs
    return ({ s with fetched := v }, v)

/-- `WriteBack(t)` (43_shift_rotate, "Common write-back"). -/
def writeBack (f : Form) (t : Byte) (s : State) : Except Fault State :=
  match f with
  | .imp => .ok { s with a := t }
  | _ => memWrite s s.addrAbs t

/-- What an opcode routine leaves: the state, `opcodeExtra`, and `branchExtra` (40_execution R140). -/
structure Effect where
  state : State
  opcodeExtra : Bool
  branchExtra : Nat
deriving DecidableEq, Repr

/-- An effect that never earns an extra cycle: the routine returns 0. -/
def plain (s : State) : Effect := { state := s, opcodeExtra := false, branchExtra := 0 }

/-- An effect that earns the extra cycle of a page cross: the routine returns 1 (40_execution R156). -/
def crossing (s : State) : Effect := { state := s, opcodeExtra := true, branchExtra := 0 }

/-- The start of a fetch tick (40_execution R140): the opcode register, `P.U <- 1`, PC past the opcode. -/
def afterOpcode (op : Byte) (s : State) : State :=
  { s with opcode := op, p := setFlag s.p .U true, pc := s.pc + 1 }

/-- The end of a fetch tick (40_execution R140, R141): the cycle count and the completed flag. -/
def finish (base : Nat) (addrExtra : Bool) (e : Effect) : State :=
  { e.state with cycles := base + (addrExtra && e.opcodeExtra).toNat + e.branchExtra
                 isCompleteCycle := true }

/-- The fetch tick of the instruction with opcode `op`, base cycle count `base`, operand form `f` and
opcode routine `routine` (40_execution R140), from the state whose PC is the opcode's address. -/
def tick (op : Byte) (base : Nat) (f : Form) (routine : Form → State → Except Fault Effect)
    (s : State) : Except Fault State := do
  let (s, addrExtra) ← resolve f (afterOpcode op s)
  let e ← routine f s
  return finish base addrExtra e

/-- The same as an outcome: the shape of every documented instruction's meaning. -/
def run (op : Byte) (base : Nat) (f : Form) (routine : Form → State → Except Fault Effect)
    (s : State) : Host.Outcome State Fault Refusal :=
  outcomeOf (tick op base f routine s)

end Sys2Proof.Machine
end

