-- ==== Sys2Proof/Machine/Arith.lean ====
section
/-! DEFINITION. Arithmetic, logic, compare, increment and decrement (42_arithmetic_logic). Each
instruction's opcode routine, then one meaning for each row of the opcode table: its opcode byte and base
cycle count (30_encoding R114), its operand form and its routine, run by the fetch tick `run`. -/

namespace Sys2Proof.Machine

/-- ADC (42_arithmetic_logic R190): binary whatever `P.D` holds (D27). -/
def opAdc (f : Form) (s : State) : Except Fault Effect := do
  let (s, m) ← operand f s
  return crossing (s.setAlu (addWithCarry s.a m (s.flag .C)))

/-- SBC (42_arithmetic_logic R191): binary whatever `P.D` holds (D27). -/
def opSbc (f : Form) (s : State) : Except Fault Effect := do
  let (s, m) ← operand f s
  return crossing (s.setAlu (subWithCarry s.a m (s.flag .C)))

/-- AND (42_arithmetic_logic R192). -/
def opAnd (f : Form) (s : State) : Except Fault Effect := do
  let (s, m) ← operand f s
  return crossing { s.setZN (s.a &&& m) with a := s.a &&& m }

/-- ORA (42_arithmetic_logic R193). -/
def opOra (f : Form) (s : State) : Except Fault Effect := do
  let (s, m) ← operand f s
  return crossing { s.setZN (s.a ||| m) with a := s.a ||| m }

/-- EOR (42_arithmetic_logic R194). -/
def opEor (f : Form) (s : State) : Except Fault Effect := do
  let (s, m) ← operand f s
  return crossing { s.setZN (s.a ^^^ m) with a := s.a ^^^ m }

/-- BIT (42_arithmetic_logic R198): Z from the AND, N and V from the memory byte. -/
def opBit (f : Form) (s : State) : Except Fault Effect := do
  let (s, m) ← operand f s
  return plain (((s.setFlag .Z ((s.a &&& m) == 0)).setFlag .N (bit7 m)).setFlag .V (m.getLsbD 6))

/-- CMP (42_arithmetic_logic R195). -/
def opCmp (f : Form) (s : State) : Except Fault Effect := do
  let (s, m) ← operand f s
  return crossing (s.setCompare s.a m)

/-- CPX (42_arithmetic_logic R196). -/
def opCpx (f : Form) (s : State) : Except Fault Effect := do
  let (s, m) ← operand f s
  return plain (s.setCompare s.x m)

/-- CPY (42_arithmetic_logic R197). -/
def opCpy (f : Form) (s : State) : Except Fault Effect := do
  let (s, m) ← operand f s
  return plain (s.setCompare s.y m)

/-- INC (42_arithmetic_logic R199): one read, then one write of the same address. -/
def opInc (f : Form) (s : State) : Except Fault Effect := do
  let (s, m) ← operand f s
  let s ← memWrite s s.addrAbs (m + 1)
  return plain (s.setZN (m + 1))

/-- INX (42_arithmetic_logic R200). -/
def opInx (_f : Form) (s : State) : Except Fault Effect :=
  .ok (plain { s.setZN (s.x + 1) with x := s.x + 1 })

/-- INY (42_arithmetic_logic R201). -/
def opIny (_f : Form) (s : State) : Except Fault Effect :=
  .ok (plain { s.setZN (s.y + 1) with y := s.y + 1 })

/-- DEC (42_arithmetic_logic R202): one read, then one write of the same address. -/
def opDec (f : Form) (s : State) : Except Fault Effect := do
  let (s, m) ← operand f s
  let s ← memWrite s s.addrAbs (m - 1)
  return plain (s.setZN (m - 1))

/-- DEX (42_arithmetic_logic R203). -/
def opDex (_f : Form) (s : State) : Except Fault Effect :=
  .ok (plain { s.setZN (s.x - 1) with x := s.x - 1 })

/-- DEY (42_arithmetic_logic R204). -/
def opDey (_f : Form) (s : State) : Except Fault Effect :=
  .ok (plain { s.setZN (s.y - 1) with y := s.y - 1 })

/-- ADC, mode IMM (R190). -/
def execAdcImm (v : Byte) (s : State) : Host.Outcome State Fault Refusal := run 0x69 2 (.imm v) opAdc s
/-- ADC, mode ZP0 (R190). -/
def execAdcZp0 (ll : Byte) (s : State) : Host.Outcome State Fault Refusal := run 0x65 3 (.zp0 ll) opAdc s
/-- ADC, mode ZPX (R190). -/
def execAdcZpx (ll : Byte) (s : State) : Host.Outcome State Fault Refusal := run 0x75 4 (.zpx ll) opAdc s
/-- ADC, mode ABS (R190). -/
def execAdcAbs (addr : Word) (s : State) : Host.Outcome State Fault Refusal := run 0x6D 4 (.abs addr) opAdc s
/-- ADC, mode ABX (R190). -/
def execAdcAbx (addr : Word) (s : State) : Host.Outcome State Fault Refusal := run 0x7D 4 (.abx addr) opAdc s
/-- ADC, mode ABY (R190). -/
def execAdcAby (addr : Word) (s : State) : Host.Outcome State Fault Refusal := run 0x79 4 (.aby addr) opAdc s
/-- ADC, mode IZX (R190). -/
def execAdcIzx (ll : Byte) (s : State) : Host.Outcome State Fault Refusal := run 0x61 6 (.izx ll) opAdc s
/-- ADC, mode IZY (R190). -/
def execAdcIzy (ll : Byte) (s : State) : Host.Outcome State Fault Refusal := run 0x71 5 (.izy ll) opAdc s

/-- SBC, mode IMM (R191). -/
def execSbcImm (v : Byte) (s : State) : Host.Outcome State Fault Refusal := run 0xE9 2 (.imm v) opSbc s
/-- SBC, mode ZP0 (R191). -/
def execSbcZp0 (ll : Byte) (s : State) : Host.Outcome State Fault Refusal := run 0xE5 3 (.zp0 ll) opSbc s
/-- SBC, mode ZPX (R191). -/
def execSbcZpx (ll : Byte) (s : State) : Host.Outcome State Fault Refusal := run 0xF5 4 (.zpx ll) opSbc s
/-- SBC, mode ABS (R191). -/
def execSbcAbs (addr : Word) (s : State) : Host.Outcome State Fault Refusal := run 0xED 4 (.abs addr) opSbc s
/-- SBC, mode ABX (R191). -/
def execSbcAbx (addr : Word) (s : State) : Host.Outcome State Fault Refusal := run 0xFD 4 (.abx addr) opSbc s
/-- SBC, mode ABY (R191). -/
def execSbcAby (addr : Word) (s : State) : Host.Outcome State Fault Refusal := run 0xF9 4 (.aby addr) opSbc s
/-- SBC, mode IZX (R191). -/
def execSbcIzx (ll : Byte) (s : State) : Host.Outcome State Fault Refusal := run 0xE1 6 (.izx ll) opSbc s
/-- SBC, mode IZY (R191). -/
def execSbcIzy (ll : Byte) (s : State) : Host.Outcome State Fault Refusal := run 0xF1 5 (.izy ll) opSbc s

/-- AND, mode IMM (R192). -/
def execAndImm (v : Byte) (s : State) : Host.Outcome State Fault Refusal := run 0x29 2 (.imm v) opAnd s
/-- AND, mode ZP0 (R192). -/
def execAndZp0 (ll : Byte) (s : State) : Host.Outcome State Fault Refusal := run 0x25 3 (.zp0 ll) opAnd s
/-- AND, mode ZPX (R192). -/
def execAndZpx (ll : Byte) (s : State) : Host.Outcome State Fault Refusal := run 0x35 4 (.zpx ll) opAnd s
/-- AND, mode ABS (R192). -/
def execAndAbs (addr : Word) (s : State) : Host.Outcome State Fault Refusal := run 0x2D 4 (.abs addr) opAnd s
/-- AND, mode ABX (R192). -/
def execAndAbx (addr : Word) (s : State) : Host.Outcome State Fault Refusal := run 0x3D 4 (.abx addr) opAnd s
/-- AND, mode ABY (R192). -/
def execAndAby (addr : Word) (s : State) : Host.Outcome State Fault Refusal := run 0x39 4 (.aby addr) opAnd s
/-- AND, mode IZX (R192). -/
def execAndIzx (ll : Byte) (s : State) : Host.Outcome State Fault Refusal := run 0x21 6 (.izx ll) opAnd s
/-- AND, mode IZY (R192). -/
def execAndIzy (ll : Byte) (s : State) : Host.Outcome State Fault Refusal := run 0x31 5 (.izy ll) opAnd s

/-- ORA, mode IMM (R193). -/
def execOraImm (v : Byte) (s : State) : Host.Outcome State Fault Refusal := run 0x09 2 (.imm v) opOra s
/-- ORA, mode ZP0 (R193). -/
def execOraZp0 (ll : Byte) (s : State) : Host.Outcome State Fault Refusal := run 0x05 3 (.zp0 ll) opOra s
/-- ORA, mode ZPX (R193). -/
def execOraZpx (ll : Byte) (s : State) : Host.Outcome State Fault Refusal := run 0x15 4 (.zpx ll) opOra s
/-- ORA, mode ABS (R193). -/
def execOraAbs (addr : Word) (s : State) : Host.Outcome State Fault Refusal := run 0x0D 4 (.abs addr) opOra s
/-- ORA, mode ABX (R193). -/
def execOraAbx (addr : Word) (s : State) : Host.Outcome State Fault Refusal := run 0x1D 4 (.abx addr) opOra s
/-- ORA, mode ABY (R193). -/
def execOraAby (addr : Word) (s : State) : Host.Outcome State Fault Refusal := run 0x19 4 (.aby addr) opOra s
/-- ORA, mode IZX (R193). -/
def execOraIzx (ll : Byte) (s : State) : Host.Outcome State Fault Refusal := run 0x01 6 (.izx ll) opOra s
/-- ORA, mode IZY (R193). -/
def execOraIzy (ll : Byte) (s : State) : Host.Outcome State Fault Refusal := run 0x11 5 (.izy ll) opOra s

/-- EOR, mode IMM (R194). -/
def execEorImm (v : Byte) (s : State) : Host.Outcome State Fault Refusal := run 0x49 2 (.imm v) opEor s
/-- EOR, mode ZP0 (R194). -/
def execEorZp0 (ll : Byte) (s : State) : Host.Outcome State Fault Refusal := run 0x45 3 (.zp0 ll) opEor s
/-- EOR, mode ZPX (R194). -/
def execEorZpx (ll : Byte) (s : State) : Host.Outcome State Fault Refusal := run 0x55 4 (.zpx ll) opEor s
/-- EOR, mode ABS (R194). -/
def execEorAbs (addr : Word) (s : State) : Host.Outcome State Fault Refusal := run 0x4D 4 (.abs addr) opEor s
/-- EOR, mode ABX (R194). -/
def execEorAbx (addr : Word) (s : State) : Host.Outcome State Fault Refusal := run 0x5D 4 (.abx addr) opEor s
/-- EOR, mode ABY (R194). -/
def execEorAby (addr : Word) (s : State) : Host.Outcome State Fault Refusal := run 0x59 4 (.aby addr) opEor s
/-- EOR, mode IZX (R194). -/
def execEorIzx (ll : Byte) (s : State) : Host.Outcome State Fault Refusal := run 0x41 6 (.izx ll) opEor s
/-- EOR, mode IZY (R194). -/
def execEorIzy (ll : Byte) (s : State) : Host.Outcome State Fault Refusal := run 0x51 5 (.izy ll) opEor s

/-- BIT, mode ZP0 (R198). -/
def execBitZp0 (ll : Byte) (s : State) : Host.Outcome State Fault Refusal := run 0x24 3 (.zp0 ll) opBit s
/-- BIT, mode ABS (R198). -/
def execBitAbs (addr : Word) (s : State) : Host.Outcome State Fault Refusal := run 0x2C 4 (.abs addr) opBit s

/-- CMP, mode IMM (R195). -/
def execCmpImm (v : Byte) (s : State) : Host.Outcome State Fault Refusal := run 0xC9 2 (.imm v) opCmp s
/-- CMP, mode ZP0 (R195). -/
def execCmpZp0 (ll : Byte) (s : State) : Host.Outcome State Fault Refusal := run 0xC5 3 (.zp0 ll) opCmp s
/-- CMP, mode ZPX (R195). -/
def execCmpZpx (ll : Byte) (s : State) : Host.Outcome State Fault Refusal := run 0xD5 4 (.zpx ll) opCmp s
/-- CMP, mode ABS (R195). -/
def execCmpAbs (addr : Word) (s : State) : Host.Outcome State Fault Refusal := run 0xCD 4 (.abs addr) opCmp s
/-- CMP, mode ABX (R195). -/
def execCmpAbx (addr : Word) (s : State) : Host.Outcome State Fault Refusal := run 0xDD 4 (.abx addr) opCmp s
/-- CMP, mode ABY (R195). -/
def execCmpAby (addr : Word) (s : State) : Host.Outcome State Fault Refusal := run 0xD9 4 (.aby addr) opCmp s
/-- CMP, mode IZX (R195). -/
def execCmpIzx (ll : Byte) (s : State) : Host.Outcome State Fault Refusal := run 0xC1 6 (.izx ll) opCmp s
/-- CMP, mode IZY (R195). -/
def execCmpIzy (ll : Byte) (s : State) : Host.Outcome State Fault Refusal := run 0xD1 5 (.izy ll) opCmp s

/-- CPX, mode IMM (R196). -/
def execCpxImm (v : Byte) (s : State) : Host.Outcome State Fault Refusal := run 0xE0 2 (.imm v) opCpx s
/-- CPX, mode ZP0 (R196). -/
def execCpxZp0 (ll : Byte) (s : State) : Host.Outcome State Fault Refusal := run 0xE4 3 (.zp0 ll) opCpx s
/-- CPX, mode ABS (R196). -/
def execCpxAbs (addr : Word) (s : State) : Host.Outcome State Fault Refusal := run 0xEC 4 (.abs addr) opCpx s

/-- CPY, mode IMM (R197). -/
def execCpyImm (v : Byte) (s : State) : Host.Outcome State Fault Refusal := run 0xC0 2 (.imm v) opCpy s
/-- CPY, mode ZP0 (R197). -/
def execCpyZp0 (ll : Byte) (s : State) : Host.Outcome State Fault Refusal := run 0xC4 3 (.zp0 ll) opCpy s
/-- CPY, mode ABS (R197). -/
def execCpyAbs (addr : Word) (s : State) : Host.Outcome State Fault Refusal := run 0xCC 4 (.abs addr) opCpy s

/-- INC, mode ZP0 (R199). -/
def execIncZp0 (ll : Byte) (s : State) : Host.Outcome State Fault Refusal := run 0xE6 5 (.zp0 ll) opInc s
/-- INC, mode ZPX (R199). -/
def execIncZpx (ll : Byte) (s : State) : Host.Outcome State Fault Refusal := run 0xF6 6 (.zpx ll) opInc s
/-- INC, mode ABS (R199). -/
def execIncAbs (addr : Word) (s : State) : Host.Outcome State Fault Refusal := run 0xEE 6 (.abs addr) opInc s
/-- INC, mode ABX (R199). -/
def execIncAbx (addr : Word) (s : State) : Host.Outcome State Fault Refusal := run 0xFE 7 (.abx addr) opInc s

/-- INX, mode IMP (R200). -/
def execInxImp (s : State) : Host.Outcome State Fault Refusal := run 0xE8 2 .imp opInx s

/-- INY, mode IMP (R201). -/
def execInyImp (s : State) : Host.Outcome State Fault Refusal := run 0xC8 2 .imp opIny s

/-- DEC, mode ZP0 (R202). -/
def execDecZp0 (ll : Byte) (s : State) : Host.Outcome State Fault Refusal := run 0xC6 5 (.zp0 ll) opDec s
/-- DEC, mode ZPX (R202). -/
def execDecZpx (ll : Byte) (s : State) : Host.Outcome State Fault Refusal := run 0xD6 6 (.zpx ll) opDec s
/-- DEC, mode ABS (R202). -/
def execDecAbs (addr : Word) (s : State) : Host.Outcome State Fault Refusal := run 0xCE 6 (.abs addr) opDec s
/-- DEC, mode ABX (R202). -/
def execDecAbx (addr : Word) (s : State) : Host.Outcome State Fault Refusal := run 0xDE 7 (.abx addr) opDec s

/-- DEX, mode IMP (R203). -/
def execDexImp (s : State) : Host.Outcome State Fault Refusal := run 0xCA 2 .imp opDex s

/-- DEY, mode IMP (R204). -/
def execDeyImp (s : State) : Host.Outcome State Fault Refusal := run 0x88 2 .imp opDey s

end Sys2Proof.Machine
end

