-- ==== Sys2Proof/Machine/Control.lean ====
section
/-! DEFINITION. Branches, jumps, call and return (44_control_flow). Each instruction's opcode routine, then
one meaning for each row of the opcode table: its opcode byte and base cycle count (30_encoding R114), its
operand form and its routine, run by the fetch tick `run`. -/

namespace Sys2Proof.Machine

/-- The common branch body (44_control_flow R230): one more cycle when taken, two when the target lies in
another page than the next instruction. -/
def branch (cond : Bool) (s : State) : Except Fault Effect :=
  if cond then
    let target := s.pc + s.addrRel
    .ok { state := { s with addrAbs := target, pc := target }
          opcodeExtra := false
          branchExtra := if page target != page s.pc then 2 else 1 }
  else .ok (plain s)

/-- BCC (44_control_flow R231). -/
def opBcc (_f : Form) (s : State) : Except Fault Effect := branch (!s.flag .C) s

/-- BCS (44_control_flow R232). -/
def opBcs (_f : Form) (s : State) : Except Fault Effect := branch (s.flag .C) s

/-- BEQ (44_control_flow R233). -/
def opBeq (_f : Form) (s : State) : Except Fault Effect := branch (s.flag .Z) s

/-- BMI (44_control_flow R234). -/
def opBmi (_f : Form) (s : State) : Except Fault Effect := branch (s.flag .N) s

/-- BNE (44_control_flow R235). -/
def opBne (_f : Form) (s : State) : Except Fault Effect := branch (!s.flag .Z) s

/-- BPL (44_control_flow R236). -/
def opBpl (_f : Form) (s : State) : Except Fault Effect := branch (!s.flag .N) s

/-- BVC (44_control_flow R237). -/
def opBvc (_f : Form) (s : State) : Except Fault Effect := branch (!s.flag .V) s

/-- BVS (44_control_flow R238). -/
def opBvs (_f : Form) (s : State) : Except Fault Effect := branch (s.flag .V) s

/-- JMP (44_control_flow R239). -/
def opJmp (_f : Form) (s : State) : Except Fault Effect := .ok (plain { s with pc := s.addrAbs })

/-- JSR (44_control_flow R240): the address of its third byte is pushed, high byte first. -/
def opJsr (_f : Form) (s : State) : Except Fault Effect := do
  let s ← pushWord s (s.pc - 1)
  return plain { s with pc := s.addrAbs }

/-- RTS (44_control_flow R241). -/
def opRts (_f : Form) (s : State) : Except Fault Effect := do
  let (s, w) ← pullWord s
  return plain { s with pc := w + 1 }

/-- BCC, mode REL (R231). -/
def execBccRel (rr : Byte) (s : State) : Host.Outcome State Fault Refusal := run 0x90 2 (.rel rr) opBcc s

/-- BCS, mode REL (R232). -/
def execBcsRel (rr : Byte) (s : State) : Host.Outcome State Fault Refusal := run 0xB0 2 (.rel rr) opBcs s

/-- BEQ, mode REL (R233). -/
def execBeqRel (rr : Byte) (s : State) : Host.Outcome State Fault Refusal := run 0xF0 2 (.rel rr) opBeq s

/-- BMI, mode REL (R234). -/
def execBmiRel (rr : Byte) (s : State) : Host.Outcome State Fault Refusal := run 0x30 2 (.rel rr) opBmi s

/-- BNE, mode REL (R235). -/
def execBneRel (rr : Byte) (s : State) : Host.Outcome State Fault Refusal := run 0xD0 2 (.rel rr) opBne s

/-- BPL, mode REL (R236). -/
def execBplRel (rr : Byte) (s : State) : Host.Outcome State Fault Refusal := run 0x10 2 (.rel rr) opBpl s

/-- BVC, mode REL (R237). -/
def execBvcRel (rr : Byte) (s : State) : Host.Outcome State Fault Refusal := run 0x50 2 (.rel rr) opBvc s

/-- BVS, mode REL (R238). -/
def execBvsRel (rr : Byte) (s : State) : Host.Outcome State Fault Refusal := run 0x70 2 (.rel rr) opBvs s

/-- JMP, mode ABS (R239). -/
def execJmpAbs (addr : Word) (s : State) : Host.Outcome State Fault Refusal := run 0x4C 3 (.abs addr) opJmp s
/-- JMP, mode IND (R239). -/
def execJmpInd (ptr : Word) (s : State) : Host.Outcome State Fault Refusal := run 0x6C 5 (.ind ptr) opJmp s

/-- JSR, mode ABS (R240). -/
def execJsrAbs (addr : Word) (s : State) : Host.Outcome State Fault Refusal := run 0x20 6 (.abs addr) opJsr s

/-- RTS, mode IMP (R241). -/
def execRtsImp (s : State) : Host.Outcome State Fault Refusal := run 0x60 6 .imp opRts s

end Sys2Proof.Machine
end

