-- ==== Sys2Proof/Machine/Illegal.lean ====
section
/-! DEFINITION. The 105 illegal opcodes: no-op stubs (30_encoding R115, R116; 45_stack_flags_system R264
to R266). The default table gives each of them mode IMP; an entry of `cfg.illegalOverrides` replaces its
mnemonic string, mode, base cycle count and stub routine (log 7). -/

namespace Sys2Proof.Machine

/-- The entry that `ILLEGAL_TABLE` holds for an illegal opcode: a replaced one, else the default, mode
IMP with base count `base` and stub `r` (30_encoding R115). -/
def illegalEntry (c : Config) (op : Byte) (base : Nat) (r : StubRoutine) : IllegalEntry :=
  match replacedEntry c op with
  | some e => e
  | none =>
    { opcode := op, name := (descriptor op).name, mode := .IMP, baseCycles := base, routine := r }

/-- The stub routines `XXX` and `NOP`: no state change (45_stack_flags_system R264, R265). -/
def opStub (extra : Bool) (_f : Form) (s : State) : Except Fault Effect :=
  .ok { state := s, opcodeExtra := extra, branchExtra := 0 }

/-- The fetch tick of an illegal opcode, from the state whose PC is the opcode's address. -/
def stub (op : Byte) (base : Nat) (r : StubRoutine) (s : State) : Host.Outcome State Fault Refusal :=
  let e := illegalEntry s.cfg op base r
  outcomeOf do
    let f ← fetchForm e.mode (afterOpcode op s)
    tick op e.baseCycles f (opStub (stubExtra e.routine op e.mode)) s

/-- Illegal opcode 0x02, an `XXX` entry (R264). -/
def execIll02 (s : State) : Host.Outcome State Fault Refusal := stub 0x02 2 .xxx s
/-- Illegal opcode 0x03, an `XXX` entry (R264). -/
def execIll03 (s : State) : Host.Outcome State Fault Refusal := stub 0x03 8 .xxx s
/-- Illegal opcode 0x04, a `NOP` entry (R265). -/
def execIll04 (s : State) : Host.Outcome State Fault Refusal := stub 0x04 3 .nop s
/-- Illegal opcode 0x07, an `XXX` entry (R264). -/
def execIll07 (s : State) : Host.Outcome State Fault Refusal := stub 0x07 5 .xxx s
/-- Illegal opcode 0x0B, an `XXX` entry (R264). -/
def execIll0B (s : State) : Host.Outcome State Fault Refusal := stub 0x0B 2 .xxx s
/-- Illegal opcode 0x0C, a `NOP` entry (R265). -/
def execIll0C (s : State) : Host.Outcome State Fault Refusal := stub 0x0C 4 .nop s
/-- Illegal opcode 0x0F, an `XXX` entry (R264). -/
def execIll0F (s : State) : Host.Outcome State Fault Refusal := stub 0x0F 6 .xxx s
/-- Illegal opcode 0x12, an `XXX` entry (R264). -/
def execIll12 (s : State) : Host.Outcome State Fault Refusal := stub 0x12 2 .xxx s
/-- Illegal opcode 0x13, an `XXX` entry (R264). -/
def execIll13 (s : State) : Host.Outcome State Fault Refusal := stub 0x13 8 .xxx s
/-- Illegal opcode 0x14, a `NOP` entry (R265). -/
def execIll14 (s : State) : Host.Outcome State Fault Refusal := stub 0x14 4 .nop s
/-- Illegal opcode 0x17, an `XXX` entry (R264). -/
def execIll17 (s : State) : Host.Outcome State Fault Refusal := stub 0x17 6 .xxx s
/-- Illegal opcode 0x1A, a `NOP` entry (R265). -/
def execIll1A (s : State) : Host.Outcome State Fault Refusal := stub 0x1A 2 .nop s
/-- Illegal opcode 0x1B, an `XXX` entry (R264). -/
def execIll1B (s : State) : Host.Outcome State Fault Refusal := stub 0x1B 7 .xxx s
/-- Illegal opcode 0x1C, a `NOP` entry (R265). -/
def execIll1C (s : State) : Host.Outcome State Fault Refusal := stub 0x1C 4 .nop s
/-- Illegal opcode 0x1F, an `XXX` entry (R264). -/
def execIll1F (s : State) : Host.Outcome State Fault Refusal := stub 0x1F 7 .xxx s
/-- Illegal opcode 0x22, an `XXX` entry (R264). -/
def execIll22 (s : State) : Host.Outcome State Fault Refusal := stub 0x22 2 .xxx s
/-- Illegal opcode 0x23, an `XXX` entry (R264). -/
def execIll23 (s : State) : Host.Outcome State Fault Refusal := stub 0x23 8 .xxx s
/-- Illegal opcode 0x27, an `XXX` entry (R264). -/
def execIll27 (s : State) : Host.Outcome State Fault Refusal := stub 0x27 5 .xxx s
/-- Illegal opcode 0x2B, an `XXX` entry (R264). -/
def execIll2B (s : State) : Host.Outcome State Fault Refusal := stub 0x2B 2 .xxx s
/-- Illegal opcode 0x2F, an `XXX` entry (R264). -/
def execIll2F (s : State) : Host.Outcome State Fault Refusal := stub 0x2F 6 .xxx s
/-- Illegal opcode 0x32, an `XXX` entry (R264). -/
def execIll32 (s : State) : Host.Outcome State Fault Refusal := stub 0x32 2 .xxx s
/-- Illegal opcode 0x33, an `XXX` entry (R264). -/
def execIll33 (s : State) : Host.Outcome State Fault Refusal := stub 0x33 8 .xxx s
/-- Illegal opcode 0x34, a `NOP` entry (R265). -/
def execIll34 (s : State) : Host.Outcome State Fault Refusal := stub 0x34 4 .nop s
/-- Illegal opcode 0x37, an `XXX` entry (R264). -/
def execIll37 (s : State) : Host.Outcome State Fault Refusal := stub 0x37 6 .xxx s
/-- Illegal opcode 0x3A, a `NOP` entry (R265). -/
def execIll3A (s : State) : Host.Outcome State Fault Refusal := stub 0x3A 2 .nop s
/-- Illegal opcode 0x3B, an `XXX` entry (R264). -/
def execIll3B (s : State) : Host.Outcome State Fault Refusal := stub 0x3B 7 .xxx s
/-- Illegal opcode 0x3C, a `NOP` entry (R265). -/
def execIll3C (s : State) : Host.Outcome State Fault Refusal := stub 0x3C 4 .nop s
/-- Illegal opcode 0x3F, an `XXX` entry (R264). -/
def execIll3F (s : State) : Host.Outcome State Fault Refusal := stub 0x3F 7 .xxx s
/-- Illegal opcode 0x42, an `XXX` entry (R264). -/
def execIll42 (s : State) : Host.Outcome State Fault Refusal := stub 0x42 2 .xxx s
/-- Illegal opcode 0x43, an `XXX` entry (R264). -/
def execIll43 (s : State) : Host.Outcome State Fault Refusal := stub 0x43 8 .xxx s
/-- Illegal opcode 0x44, a `NOP` entry (R265). -/
def execIll44 (s : State) : Host.Outcome State Fault Refusal := stub 0x44 3 .nop s
/-- Illegal opcode 0x47, an `XXX` entry (R264). -/
def execIll47 (s : State) : Host.Outcome State Fault Refusal := stub 0x47 5 .xxx s
/-- Illegal opcode 0x4B, an `XXX` entry (R264). -/
def execIll4B (s : State) : Host.Outcome State Fault Refusal := stub 0x4B 2 .xxx s
/-- Illegal opcode 0x4F, an `XXX` entry (R264). -/
def execIll4F (s : State) : Host.Outcome State Fault Refusal := stub 0x4F 6 .xxx s
/-- Illegal opcode 0x52, an `XXX` entry (R264). -/
def execIll52 (s : State) : Host.Outcome State Fault Refusal := stub 0x52 2 .xxx s
/-- Illegal opcode 0x53, an `XXX` entry (R264). -/
def execIll53 (s : State) : Host.Outcome State Fault Refusal := stub 0x53 8 .xxx s
/-- Illegal opcode 0x54, a `NOP` entry (R265). -/
def execIll54 (s : State) : Host.Outcome State Fault Refusal := stub 0x54 4 .nop s
/-- Illegal opcode 0x57, an `XXX` entry (R264). -/
def execIll57 (s : State) : Host.Outcome State Fault Refusal := stub 0x57 6 .xxx s
/-- Illegal opcode 0x5A, a `NOP` entry (R265). -/
def execIll5A (s : State) : Host.Outcome State Fault Refusal := stub 0x5A 2 .nop s
/-- Illegal opcode 0x5B, an `XXX` entry (R264). -/
def execIll5B (s : State) : Host.Outcome State Fault Refusal := stub 0x5B 7 .xxx s
/-- Illegal opcode 0x5C, a `NOP` entry (R265). -/
def execIll5C (s : State) : Host.Outcome State Fault Refusal := stub 0x5C 4 .nop s
/-- Illegal opcode 0x5F, an `XXX` entry (R264). -/
def execIll5F (s : State) : Host.Outcome State Fault Refusal := stub 0x5F 7 .xxx s
/-- Illegal opcode 0x62, an `XXX` entry (R264). -/
def execIll62 (s : State) : Host.Outcome State Fault Refusal := stub 0x62 2 .xxx s
/-- Illegal opcode 0x63, an `XXX` entry (R264). -/
def execIll63 (s : State) : Host.Outcome State Fault Refusal := stub 0x63 8 .xxx s
/-- Illegal opcode 0x64, a `NOP` entry (R265). -/
def execIll64 (s : State) : Host.Outcome State Fault Refusal := stub 0x64 3 .nop s
/-- Illegal opcode 0x67, an `XXX` entry (R264). -/
def execIll67 (s : State) : Host.Outcome State Fault Refusal := stub 0x67 5 .xxx s
/-- Illegal opcode 0x6B, an `XXX` entry (R264). -/
def execIll6B (s : State) : Host.Outcome State Fault Refusal := stub 0x6B 2 .xxx s
/-- Illegal opcode 0x6F, an `XXX` entry (R264). -/
def execIll6F (s : State) : Host.Outcome State Fault Refusal := stub 0x6F 6 .xxx s
/-- Illegal opcode 0x72, an `XXX` entry (R264). -/
def execIll72 (s : State) : Host.Outcome State Fault Refusal := stub 0x72 2 .xxx s
/-- Illegal opcode 0x73, an `XXX` entry (R264). -/
def execIll73 (s : State) : Host.Outcome State Fault Refusal := stub 0x73 8 .xxx s
/-- Illegal opcode 0x74, a `NOP` entry (R265). -/
def execIll74 (s : State) : Host.Outcome State Fault Refusal := stub 0x74 4 .nop s
/-- Illegal opcode 0x77, an `XXX` entry (R264). -/
def execIll77 (s : State) : Host.Outcome State Fault Refusal := stub 0x77 6 .xxx s
/-- Illegal opcode 0x7A, a `NOP` entry (R265). -/
def execIll7A (s : State) : Host.Outcome State Fault Refusal := stub 0x7A 2 .nop s
/-- Illegal opcode 0x7B, an `XXX` entry (R264). -/
def execIll7B (s : State) : Host.Outcome State Fault Refusal := stub 0x7B 7 .xxx s
/-- Illegal opcode 0x7C, a `NOP` entry (R265). -/
def execIll7C (s : State) : Host.Outcome State Fault Refusal := stub 0x7C 4 .nop s
/-- Illegal opcode 0x7F, an `XXX` entry (R264). -/
def execIll7F (s : State) : Host.Outcome State Fault Refusal := stub 0x7F 7 .xxx s
/-- Illegal opcode 0x80, a `NOP` entry (R265). -/
def execIll80 (s : State) : Host.Outcome State Fault Refusal := stub 0x80 2 .nop s
/-- Illegal opcode 0x82, a `NOP` entry (R265). -/
def execIll82 (s : State) : Host.Outcome State Fault Refusal := stub 0x82 2 .nop s
/-- Illegal opcode 0x83, an `XXX` entry (R264). -/
def execIll83 (s : State) : Host.Outcome State Fault Refusal := stub 0x83 6 .xxx s
/-- Illegal opcode 0x87, an `XXX` entry (R264). -/
def execIll87 (s : State) : Host.Outcome State Fault Refusal := stub 0x87 3 .xxx s
/-- Illegal opcode 0x89, a `NOP` entry (R265). -/
def execIll89 (s : State) : Host.Outcome State Fault Refusal := stub 0x89 2 .nop s
/-- Illegal opcode 0x8B, an `XXX` entry (R264). -/
def execIll8B (s : State) : Host.Outcome State Fault Refusal := stub 0x8B 2 .xxx s
/-- Illegal opcode 0x8F, an `XXX` entry (R264). -/
def execIll8F (s : State) : Host.Outcome State Fault Refusal := stub 0x8F 4 .xxx s
/-- Illegal opcode 0x92, an `XXX` entry (R264). -/
def execIll92 (s : State) : Host.Outcome State Fault Refusal := stub 0x92 2 .xxx s
/-- Illegal opcode 0x93, an `XXX` entry (R264). -/
def execIll93 (s : State) : Host.Outcome State Fault Refusal := stub 0x93 6 .xxx s
/-- Illegal opcode 0x97, an `XXX` entry (R264). -/
def execIll97 (s : State) : Host.Outcome State Fault Refusal := stub 0x97 4 .xxx s
/-- Illegal opcode 0x9B, an `XXX` entry (R264). -/
def execIll9B (s : State) : Host.Outcome State Fault Refusal := stub 0x9B 5 .xxx s
/-- Illegal opcode 0x9C, a `NOP` entry (R265). -/
def execIll9C (s : State) : Host.Outcome State Fault Refusal := stub 0x9C 5 .nop s
/-- Illegal opcode 0x9E, an `XXX` entry (R264). -/
def execIll9E (s : State) : Host.Outcome State Fault Refusal := stub 0x9E 5 .xxx s
/-- Illegal opcode 0x9F, an `XXX` entry (R264). -/
def execIll9F (s : State) : Host.Outcome State Fault Refusal := stub 0x9F 5 .xxx s
/-- Illegal opcode 0xA3, an `XXX` entry (R264). -/
def execIllA3 (s : State) : Host.Outcome State Fault Refusal := stub 0xA3 6 .xxx s
/-- Illegal opcode 0xA7, an `XXX` entry (R264). -/
def execIllA7 (s : State) : Host.Outcome State Fault Refusal := stub 0xA7 3 .xxx s
/-- Illegal opcode 0xAB, an `XXX` entry (R264). -/
def execIllAB (s : State) : Host.Outcome State Fault Refusal := stub 0xAB 2 .xxx s
/-- Illegal opcode 0xAF, an `XXX` entry (R264). -/
def execIllAF (s : State) : Host.Outcome State Fault Refusal := stub 0xAF 4 .xxx s
/-- Illegal opcode 0xB2, an `XXX` entry (R264). -/
def execIllB2 (s : State) : Host.Outcome State Fault Refusal := stub 0xB2 2 .xxx s
/-- Illegal opcode 0xB3, an `XXX` entry (R264). -/
def execIllB3 (s : State) : Host.Outcome State Fault Refusal := stub 0xB3 5 .xxx s
/-- Illegal opcode 0xB7, an `XXX` entry (R264). -/
def execIllB7 (s : State) : Host.Outcome State Fault Refusal := stub 0xB7 4 .xxx s
/-- Illegal opcode 0xBB, an `XXX` entry (R264). -/
def execIllBB (s : State) : Host.Outcome State Fault Refusal := stub 0xBB 4 .xxx s
/-- Illegal opcode 0xBF, an `XXX` entry (R264). -/
def execIllBF (s : State) : Host.Outcome State Fault Refusal := stub 0xBF 4 .xxx s
/-- Illegal opcode 0xC2, a `NOP` entry (R265). -/
def execIllC2 (s : State) : Host.Outcome State Fault Refusal := stub 0xC2 2 .nop s
/-- Illegal opcode 0xC3, an `XXX` entry (R264). -/
def execIllC3 (s : State) : Host.Outcome State Fault Refusal := stub 0xC3 8 .xxx s
/-- Illegal opcode 0xC7, an `XXX` entry (R264). -/
def execIllC7 (s : State) : Host.Outcome State Fault Refusal := stub 0xC7 5 .xxx s
/-- Illegal opcode 0xCB, an `XXX` entry (R264). -/
def execIllCB (s : State) : Host.Outcome State Fault Refusal := stub 0xCB 2 .xxx s
/-- Illegal opcode 0xCF, an `XXX` entry (R264). -/
def execIllCF (s : State) : Host.Outcome State Fault Refusal := stub 0xCF 6 .xxx s
/-- Illegal opcode 0xD2, an `XXX` entry (R264). -/
def execIllD2 (s : State) : Host.Outcome State Fault Refusal := stub 0xD2 2 .xxx s
/-- Illegal opcode 0xD3, an `XXX` entry (R264). -/
def execIllD3 (s : State) : Host.Outcome State Fault Refusal := stub 0xD3 8 .xxx s
/-- Illegal opcode 0xD4, a `NOP` entry (R265). -/
def execIllD4 (s : State) : Host.Outcome State Fault Refusal := stub 0xD4 4 .nop s
/-- Illegal opcode 0xD7, an `XXX` entry (R264). -/
def execIllD7 (s : State) : Host.Outcome State Fault Refusal := stub 0xD7 6 .xxx s
/-- Illegal opcode 0xDA, a `NOP` entry (R265). -/
def execIllDA (s : State) : Host.Outcome State Fault Refusal := stub 0xDA 2 .nop s
/-- Illegal opcode 0xDB, an `XXX` entry (R264). -/
def execIllDB (s : State) : Host.Outcome State Fault Refusal := stub 0xDB 7 .xxx s
/-- Illegal opcode 0xDC, a `NOP` entry (R265). -/
def execIllDC (s : State) : Host.Outcome State Fault Refusal := stub 0xDC 4 .nop s
/-- Illegal opcode 0xDF, an `XXX` entry (R264). -/
def execIllDF (s : State) : Host.Outcome State Fault Refusal := stub 0xDF 7 .xxx s
/-- Illegal opcode 0xE2, a `NOP` entry (R265). -/
def execIllE2 (s : State) : Host.Outcome State Fault Refusal := stub 0xE2 2 .nop s
/-- Illegal opcode 0xE3, an `XXX` entry (R264). -/
def execIllE3 (s : State) : Host.Outcome State Fault Refusal := stub 0xE3 8 .xxx s
/-- Illegal opcode 0xE7, an `XXX` entry (R264). -/
def execIllE7 (s : State) : Host.Outcome State Fault Refusal := stub 0xE7 5 .xxx s
/-- Illegal opcode 0xEB, an `XXX` entry (R266). -/
def execIllEB (s : State) : Host.Outcome State Fault Refusal := stub 0xEB 2 .xxx s
/-- Illegal opcode 0xEF, an `XXX` entry (R264). -/
def execIllEF (s : State) : Host.Outcome State Fault Refusal := stub 0xEF 6 .xxx s
/-- Illegal opcode 0xF2, an `XXX` entry (R264). -/
def execIllF2 (s : State) : Host.Outcome State Fault Refusal := stub 0xF2 2 .xxx s
/-- Illegal opcode 0xF3, an `XXX` entry (R264). -/
def execIllF3 (s : State) : Host.Outcome State Fault Refusal := stub 0xF3 8 .xxx s
/-- Illegal opcode 0xF4, a `NOP` entry (R265). -/
def execIllF4 (s : State) : Host.Outcome State Fault Refusal := stub 0xF4 4 .nop s
/-- Illegal opcode 0xF7, an `XXX` entry (R264). -/
def execIllF7 (s : State) : Host.Outcome State Fault Refusal := stub 0xF7 6 .xxx s
/-- Illegal opcode 0xFA, a `NOP` entry (R265). -/
def execIllFA (s : State) : Host.Outcome State Fault Refusal := stub 0xFA 2 .nop s
/-- Illegal opcode 0xFB, an `XXX` entry (R264). -/
def execIllFB (s : State) : Host.Outcome State Fault Refusal := stub 0xFB 7 .xxx s
/-- Illegal opcode 0xFC, a `NOP` entry (R265). -/
def execIllFC (s : State) : Host.Outcome State Fault Refusal := stub 0xFC 4 .nop s
/-- Illegal opcode 0xFF, an `XXX` entry (R264). -/
def execIllFF (s : State) : Host.Outcome State Fault Refusal := stub 0xFF 7 .xxx s

end Sys2Proof.Machine
end

