-- ==== Sys2Proof/Machine/LoadStore.lean ====
section
/-! DEFINITION. Loads, stores and register transfers (41_load_store_transfer). Each instruction's opcode
routine, then one meaning for each row of the opcode table: its opcode byte and base cycle count
(30_encoding R114), its operand form and its routine, run by the fetch tick `run`. -/

namespace Sys2Proof.Machine

/-- LDA (41_load_store_transfer R170). -/
def opLda (f : Form) (s : State) : Except Fault Effect := do
  let (s, m) ← operand f s
  return crossing { s.setZN m with a := m }

/-- LDX (41_load_store_transfer R171). -/
def opLdx (f : Form) (s : State) : Except Fault Effect := do
  let (s, m) ← operand f s
  return crossing { s.setZN m with x := m }

/-- LDY (41_load_store_transfer R172). -/
def opLdy (f : Form) (s : State) : Except Fault Effect := do
  let (s, m) ← operand f s
  return crossing { s.setZN m with y := m }

/-- STA (41_load_store_transfer R173). -/
def opSta (_f : Form) (s : State) : Except Fault Effect := do
  let s ← memWrite s s.addrAbs s.a
  return plain s

/-- STX (41_load_store_transfer R174). -/
def opStx (_f : Form) (s : State) : Except Fault Effect := do
  let s ← memWrite s s.addrAbs s.x
  return plain s

/-- STY (41_load_store_transfer R175). -/
def opSty (_f : Form) (s : State) : Except Fault Effect := do
  let s ← memWrite s s.addrAbs s.y
  return plain s

/-- TAX (41_load_store_transfer R176). -/
def opTax (_f : Form) (s : State) : Except Fault Effect :=
  .ok (plain { s.setZN s.a with x := s.a })

/-- TAY (41_load_store_transfer R177). -/
def opTay (_f : Form) (s : State) : Except Fault Effect :=
  .ok (plain { s.setZN s.a with y := s.a })

/-- TSX (41_load_store_transfer R178). -/
def opTsx (_f : Form) (s : State) : Except Fault Effect :=
  .ok (plain { s.setZN s.sp with x := s.sp })

/-- TXA (41_load_store_transfer R179). -/
def opTxa (_f : Form) (s : State) : Except Fault Effect :=
  .ok (plain { s.setZN s.x with a := s.x })

/-- TXS (41_load_store_transfer R180): the one transfer that sets no flag. -/
def opTxs (_f : Form) (s : State) : Except Fault Effect := .ok (plain { s with sp := s.x })

/-- TYA (41_load_store_transfer R181). -/
def opTya (_f : Form) (s : State) : Except Fault Effect :=
  .ok (plain { s.setZN s.y with a := s.y })

/-- LDA, mode IMM (R170). -/
def execLdaImm (v : Byte) (s : State) : Host.Outcome State Fault Refusal := run 0xA9 2 (.imm v) opLda s
/-- LDA, mode ZP0 (R170). -/
def execLdaZp0 (ll : Byte) (s : State) : Host.Outcome State Fault Refusal := run 0xA5 3 (.zp0 ll) opLda s
/-- LDA, mode ZPX (R170). -/
def execLdaZpx (ll : Byte) (s : State) : Host.Outcome State Fault Refusal := run 0xB5 4 (.zpx ll) opLda s
/-- LDA, mode ABS (R170). -/
def execLdaAbs (addr : Word) (s : State) : Host.Outcome State Fault Refusal := run 0xAD 4 (.abs addr) opLda s
/-- LDA, mode ABX (R170). -/
def execLdaAbx (addr : Word) (s : State) : Host.Outcome State Fault Refusal := run 0xBD 4 (.abx addr) opLda s
/-- LDA, mode ABY (R170). -/
def execLdaAby (addr : Word) (s : State) : Host.Outcome State Fault Refusal := run 0xB9 4 (.aby addr) opLda s
/-- LDA, mode IZX (R170). -/
def execLdaIzx (ll : Byte) (s : State) : Host.Outcome State Fault Refusal := run 0xA1 6 (.izx ll) opLda s
/-- LDA, mode IZY (R170). -/
def execLdaIzy (ll : Byte) (s : State) : Host.Outcome State Fault Refusal := run 0xB1 5 (.izy ll) opLda s

/-- LDX, mode IMM (R171). -/
def execLdxImm (v : Byte) (s : State) : Host.Outcome State Fault Refusal := run 0xA2 2 (.imm v) opLdx s
/-- LDX, mode ZP0 (R171). -/
def execLdxZp0 (ll : Byte) (s : State) : Host.Outcome State Fault Refusal := run 0xA6 3 (.zp0 ll) opLdx s
/-- LDX, mode ZPY (R171). -/
def execLdxZpy (ll : Byte) (s : State) : Host.Outcome State Fault Refusal := run 0xB6 4 (.zpy ll) opLdx s
/-- LDX, mode ABS (R171). -/
def execLdxAbs (addr : Word) (s : State) : Host.Outcome State Fault Refusal := run 0xAE 4 (.abs addr) opLdx s
/-- LDX, mode ABY (R171). -/
def execLdxAby (addr : Word) (s : State) : Host.Outcome State Fault Refusal := run 0xBE 4 (.aby addr) opLdx s

/-- LDY, mode IMM (R172). -/
def execLdyImm (v : Byte) (s : State) : Host.Outcome State Fault Refusal := run 0xA0 2 (.imm v) opLdy s
/-- LDY, mode ZP0 (R172). -/
def execLdyZp0 (ll : Byte) (s : State) : Host.Outcome State Fault Refusal := run 0xA4 3 (.zp0 ll) opLdy s
/-- LDY, mode ZPX (R172). -/
def execLdyZpx (ll : Byte) (s : State) : Host.Outcome State Fault Refusal := run 0xB4 4 (.zpx ll) opLdy s
/-- LDY, mode ABS (R172). -/
def execLdyAbs (addr : Word) (s : State) : Host.Outcome State Fault Refusal := run 0xAC 4 (.abs addr) opLdy s
/-- LDY, mode ABX (R172). -/
def execLdyAbx (addr : Word) (s : State) : Host.Outcome State Fault Refusal := run 0xBC 4 (.abx addr) opLdy s

/-- STA, mode ZP0 (R173). -/
def execStaZp0 (ll : Byte) (s : State) : Host.Outcome State Fault Refusal := run 0x85 3 (.zp0 ll) opSta s
/-- STA, mode ZPX (R173). -/
def execStaZpx (ll : Byte) (s : State) : Host.Outcome State Fault Refusal := run 0x95 4 (.zpx ll) opSta s
/-- STA, mode ABS (R173). -/
def execStaAbs (addr : Word) (s : State) : Host.Outcome State Fault Refusal := run 0x8D 4 (.abs addr) opSta s
/-- STA, mode ABX (R173). -/
def execStaAbx (addr : Word) (s : State) : Host.Outcome State Fault Refusal := run 0x9D 5 (.abx addr) opSta s
/-- STA, mode ABY (R173). -/
def execStaAby (addr : Word) (s : State) : Host.Outcome State Fault Refusal := run 0x99 5 (.aby addr) opSta s
/-- STA, mode IZX (R173). -/
def execStaIzx (ll : Byte) (s : State) : Host.Outcome State Fault Refusal := run 0x81 6 (.izx ll) opSta s
/-- STA, mode IZY (R173). -/
def execStaIzy (ll : Byte) (s : State) : Host.Outcome State Fault Refusal := run 0x91 6 (.izy ll) opSta s

/-- STX, mode ZP0 (R174). -/
def execStxZp0 (ll : Byte) (s : State) : Host.Outcome State Fault Refusal := run 0x86 3 (.zp0 ll) opStx s
/-- STX, mode ZPY (R174). -/
def execStxZpy (ll : Byte) (s : State) : Host.Outcome State Fault Refusal := run 0x96 4 (.zpy ll) opStx s
/-- STX, mode ABS (R174). -/
def execStxAbs (addr : Word) (s : State) : Host.Outcome State Fault Refusal := run 0x8E 4 (.abs addr) opStx s

/-- STY, mode ZP0 (R175). -/
def execStyZp0 (ll : Byte) (s : State) : Host.Outcome State Fault Refusal := run 0x84 3 (.zp0 ll) opSty s
/-- STY, mode ZPX (R175). -/
def execStyZpx (ll : Byte) (s : State) : Host.Outcome State Fault Refusal := run 0x94 4 (.zpx ll) opSty s
/-- STY, mode ABS (R175). -/
def execStyAbs (addr : Word) (s : State) : Host.Outcome State Fault Refusal := run 0x8C 4 (.abs addr) opSty s

/-- TAX, mode IMP (R176). -/
def execTaxImp (s : State) : Host.Outcome State Fault Refusal := run 0xAA 2 .imp opTax s

/-- TAY, mode IMP (R177). -/
def execTayImp (s : State) : Host.Outcome State Fault Refusal := run 0xA8 2 .imp opTay s

/-- TSX, mode IMP (R178). -/
def execTsxImp (s : State) : Host.Outcome State Fault Refusal := run 0xBA 2 .imp opTsx s

/-- TXA, mode IMP (R179). -/
def execTxaImp (s : State) : Host.Outcome State Fault Refusal := run 0x8A 2 .imp opTxa s

/-- TXS, mode IMP (R180). -/
def execTxsImp (s : State) : Host.Outcome State Fault Refusal := run 0x9A 2 .imp opTxs s

/-- TYA, mode IMP (R181). -/
def execTyaImp (s : State) : Host.Outcome State Fault Refusal := run 0x98 2 .imp opTya s

end Sys2Proof.Machine
end

