-- ==== Sys2Proof/Machine/Shift.lean ====
section
/-! DEFINITION. Shifts and rotates (43_shift_rotate). Each instruction's opcode routine, then one meaning
for each row of the opcode table: its opcode byte and base cycle count (30_encoding R114), its operand form
and its routine, run by the fetch tick `run`. -/

namespace Sys2Proof.Machine

/-- The common body of the four: `result` of the operand and the old carry, `carry` of the operand, the
flags C, Z and N, and the write-back (43_shift_rotate). -/
def shiftBy (result : Byte → Bool → Byte) (carry : Byte → Bool) (f : Form) (s : State) :
    Except Fault Effect := do
  let (s, m) ← operand f s
  let t := result m (s.flag .C)
  let s ← writeBack f t ((s.setFlag .C (carry m)).setZN t)
  return plain s

/-- ASL (43_shift_rotate R220). -/
def opAsl (f : Form) (s : State) : Except Fault Effect :=
  shiftBy (fun m _c => m <<< 1) (fun m => bit7 m) f s

/-- LSR (43_shift_rotate R221). -/
def opLsr (f : Form) (s : State) : Except Fault Effect :=
  shiftBy (fun m _c => m >>> 1) (fun m => m.getLsbD 0) f s

/-- ROL (43_shift_rotate R222). -/
def opRol (f : Form) (s : State) : Except Fault Effect :=
  shiftBy (fun m c => (m <<< 1) ||| (BitVec.ofBool c).setWidth 8) (fun m => bit7 m) f s

/-- ROR (43_shift_rotate R223). -/
def opRor (f : Form) (s : State) : Except Fault Effect :=
  shiftBy (fun m c => ((BitVec.ofBool c).setWidth 8 <<< 7) ||| (m >>> 1)) (fun m => m.getLsbD 0) f s

/-- ASL, mode IMP (R220). -/
def execAslImp (s : State) : Host.Outcome State Fault Refusal := run 0x0A 2 .imp opAsl s
/-- ASL, mode ZP0 (R220). -/
def execAslZp0 (ll : Byte) (s : State) : Host.Outcome State Fault Refusal := run 0x06 5 (.zp0 ll) opAsl s
/-- ASL, mode ZPX (R220). -/
def execAslZpx (ll : Byte) (s : State) : Host.Outcome State Fault Refusal := run 0x16 6 (.zpx ll) opAsl s
/-- ASL, mode ABS (R220). -/
def execAslAbs (addr : Word) (s : State) : Host.Outcome State Fault Refusal := run 0x0E 6 (.abs addr) opAsl s
/-- ASL, mode ABX (R220). -/
def execAslAbx (addr : Word) (s : State) : Host.Outcome State Fault Refusal := run 0x1E 7 (.abx addr) opAsl s

/-- LSR, mode IMP (R221). -/
def execLsrImp (s : State) : Host.Outcome State Fault Refusal := run 0x4A 2 .imp opLsr s
/-- LSR, mode ZP0 (R221). -/
def execLsrZp0 (ll : Byte) (s : State) : Host.Outcome State Fault Refusal := run 0x46 5 (.zp0 ll) opLsr s
/-- LSR, mode ZPX (R221). -/
def execLsrZpx (ll : Byte) (s : State) : Host.Outcome State Fault Refusal := run 0x56 6 (.zpx ll) opLsr s
/-- LSR, mode ABS (R221). -/
def execLsrAbs (addr : Word) (s : State) : Host.Outcome State Fault Refusal := run 0x4E 6 (.abs addr) opLsr s
/-- LSR, mode ABX (R221). -/
def execLsrAbx (addr : Word) (s : State) : Host.Outcome State Fault Refusal := run 0x5E 7 (.abx addr) opLsr s

/-- ROL, mode IMP (R222). -/
def execRolImp (s : State) : Host.Outcome State Fault Refusal := run 0x2A 2 .imp opRol s
/-- ROL, mode ZP0 (R222). -/
def execRolZp0 (ll : Byte) (s : State) : Host.Outcome State Fault Refusal := run 0x26 5 (.zp0 ll) opRol s
/-- ROL, mode ZPX (R222). -/
def execRolZpx (ll : Byte) (s : State) : Host.Outcome State Fault Refusal := run 0x36 6 (.zpx ll) opRol s
/-- ROL, mode ABS (R222). -/
def execRolAbs (addr : Word) (s : State) : Host.Outcome State Fault Refusal := run 0x2E 6 (.abs addr) opRol s
/-- ROL, mode ABX (R222). -/
def execRolAbx (addr : Word) (s : State) : Host.Outcome State Fault Refusal := run 0x3E 7 (.abx addr) opRol s

/-- ROR, mode IMP (R223). -/
def execRorImp (s : State) : Host.Outcome State Fault Refusal := run 0x6A 2 .imp opRor s
/-- ROR, mode ZP0 (R223). -/
def execRorZp0 (ll : Byte) (s : State) : Host.Outcome State Fault Refusal := run 0x66 5 (.zp0 ll) opRor s
/-- ROR, mode ZPX (R223). -/
def execRorZpx (ll : Byte) (s : State) : Host.Outcome State Fault Refusal := run 0x76 6 (.zpx ll) opRor s
/-- ROR, mode ABS (R223). -/
def execRorAbs (addr : Word) (s : State) : Host.Outcome State Fault Refusal := run 0x6E 6 (.abs addr) opRor s
/-- ROR, mode ABX (R223). -/
def execRorAbx (addr : Word) (s : State) : Host.Outcome State Fault Refusal := run 0x7E 7 (.abx addr) opRor s

end Sys2Proof.Machine
end

