-- ==== Sys2Proof/Machine/System.lean ====
section
/-! DEFINITION. Stack, flag and system instructions (45_stack_flags_system). Each instruction's opcode
routine, then one meaning for each row of the opcode table: its opcode byte and base cycle count
(30_encoding R114), its operand form and its routine, run by the fetch tick `run`. -/

namespace Sys2Proof.Machine

/-- PHA (45_stack_flags_system R250). -/
def opPha (_f : Form) (s : State) : Except Fault Effect := do
  let s ← push s s.a
  return plain s

/-- PHP (45_stack_flags_system R251): the byte pushed has B and U set; the live B is then cleared. -/
def opPhp (_f : Form) (s : State) : Except Fault Effect := do
  let s ← push s (pushedStatus s.p true)
  return plain ((s.setFlag .B false).setFlag .U true)

/-- PLA (45_stack_flags_system R252). -/
def opPla (_f : Form) (s : State) : Except Fault Effect := do
  let (s, v) ← pull s
  return plain { s.setZN v with a := v }

/-- PLP (45_stack_flags_system R253): every flag is loaded, B too; U is forced to 1. -/
def opPlp (_f : Form) (s : State) : Except Fault Effect := do
  let (s, v) ← pull s
  return plain { s with p := setFlag v .U true }

/-- CLC (45_stack_flags_system R254). -/
def opClc (_f : Form) (s : State) : Except Fault Effect := .ok (plain (s.setFlag .C false))

/-- CLD (45_stack_flags_system R255). -/
def opCld (_f : Form) (s : State) : Except Fault Effect := .ok (plain (s.setFlag .D false))

/-- CLI (45_stack_flags_system R256). -/
def opCli (_f : Form) (s : State) : Except Fault Effect := .ok (plain (s.setFlag .I false))

/-- CLV (45_stack_flags_system R257). -/
def opClv (_f : Form) (s : State) : Except Fault Effect := .ok (plain (s.setFlag .V false))

/-- SEC (45_stack_flags_system R258). -/
def opSec (_f : Form) (s : State) : Except Fault Effect := .ok (plain (s.setFlag .C true))

/-- SED (45_stack_flags_system R259). -/
def opSed (_f : Form) (s : State) : Except Fault Effect := .ok (plain (s.setFlag .D true))

/-- SEI (45_stack_flags_system R260). -/
def opSei (_f : Form) (s : State) : Except Fault Effect := .ok (plain (s.setFlag .I true))

/-- BRK (45_stack_flags_system R261): the pushed PC is the BRK's address plus `BRK_RETURN_OFFSET`; PC
already stands one past the BRK. Not maskable. -/
def opBrk (_f : Form) (s : State) : Except Fault Effect := do
  let s ← takeException s true (s.pc + s.cfg.brkReturnOffset - 1) irqVector
  return plain s

/-- RTI (45_stack_flags_system R262). -/
def opRti (_f : Form) (s : State) : Except Fault Effect := do
  let s ← returnFromException s
  return plain s

/-- NOP (45_stack_flags_system R263). -/
def opNop (_f : Form) (s : State) : Except Fault Effect := .ok (plain s)

/-- PHA, mode IMP (R250). -/
def execPhaImp (s : State) : Host.Outcome State Fault Refusal := run 0x48 3 .imp opPha s

/-- PHP, mode IMP (R251). -/
def execPhpImp (s : State) : Host.Outcome State Fault Refusal := run 0x08 3 .imp opPhp s

/-- PLA, mode IMP (R252). -/
def execPlaImp (s : State) : Host.Outcome State Fault Refusal := run 0x68 4 .imp opPla s

/-- PLP, mode IMP (R253). -/
def execPlpImp (s : State) : Host.Outcome State Fault Refusal := run 0x28 4 .imp opPlp s

/-- CLC, mode IMP (R254). -/
def execClcImp (s : State) : Host.Outcome State Fault Refusal := run 0x18 2 .imp opClc s

/-- CLD, mode IMP (R255). -/
def execCldImp (s : State) : Host.Outcome State Fault Refusal := run 0xD8 2 .imp opCld s

/-- CLI, mode IMP (R256). -/
def execCliImp (s : State) : Host.Outcome State Fault Refusal := run 0x58 2 .imp opCli s

/-- CLV, mode IMP (R257). -/
def execClvImp (s : State) : Host.Outcome State Fault Refusal := run 0xB8 2 .imp opClv s

/-- SEC, mode IMP (R258). -/
def execSecImp (s : State) : Host.Outcome State Fault Refusal := run 0x38 2 .imp opSec s

/-- SED, mode IMP (R259). -/
def execSedImp (s : State) : Host.Outcome State Fault Refusal := run 0xF8 2 .imp opSed s

/-- SEI, mode IMP (R260). -/
def execSeiImp (s : State) : Host.Outcome State Fault Refusal := run 0x78 2 .imp opSei s

/-- BRK, mode IMP (R261). -/
def execBrkImp (s : State) : Host.Outcome State Fault Refusal := run 0x00 7 .imp opBrk s

/-- RTI, mode IMP (R262). -/
def execRtiImp (s : State) : Host.Outcome State Fault Refusal := run 0x40 6 .imp opRti s

/-- NOP, mode IMP (R263). -/
def execNopImp (s : State) : Host.Outcome State Fault Refusal := run 0xEA 2 .imp opNop s

end Sys2Proof.Machine
end

