-- ==== Sys2Proof/Machine/Dispatch.lean ====
section
/-! DEFINITION. The dispatch: what each instruction does, one arm a constructor. -/

namespace Sys2Proof.Machine

/-- The meaning of an instruction: the whole fetch tick (40_execution R140) from the state whose PC is the
address of its opcode byte. -/
def exec (i : Instr) (s : State) : Host.Outcome State Fault Refusal :=
  match i with
  -- loads, stores and transfers (41_load_store_transfer)
  | .ldaImm v => Sys2Proof.Machine.execLdaImm v s
  | .ldaZp0 ll => Sys2Proof.Machine.execLdaZp0 ll s
  | .ldaZpx ll => Sys2Proof.Machine.execLdaZpx ll s
  | .ldaAbs addr => Sys2Proof.Machine.execLdaAbs addr s
  | .ldaAbx addr => Sys2Proof.Machine.execLdaAbx addr s
  | .ldaAby addr => Sys2Proof.Machine.execLdaAby addr s
  | .ldaIzx ll => Sys2Proof.Machine.execLdaIzx ll s
  | .ldaIzy ll => Sys2Proof.Machine.execLdaIzy ll s
  | .ldxImm v => Sys2Proof.Machine.execLdxImm v s
  | .ldxZp0 ll => Sys2Proof.Machine.execLdxZp0 ll s
  | .ldxZpy ll => Sys2Proof.Machine.execLdxZpy ll s
  | .ldxAbs addr => Sys2Proof.Machine.execLdxAbs addr s
  | .ldxAby addr => Sys2Proof.Machine.execLdxAby addr s
  | .ldyImm v => Sys2Proof.Machine.execLdyImm v s
  | .ldyZp0 ll => Sys2Proof.Machine.execLdyZp0 ll s
  | .ldyZpx ll => Sys2Proof.Machine.execLdyZpx ll s
  | .ldyAbs addr => Sys2Proof.Machine.execLdyAbs addr s
  | .ldyAbx addr => Sys2Proof.Machine.execLdyAbx addr s
  | .staZp0 ll => Sys2Proof.Machine.execStaZp0 ll s
  | .staZpx ll => Sys2Proof.Machine.execStaZpx ll s
  | .staAbs addr => Sys2Proof.Machine.execStaAbs addr s
  | .staAbx addr => Sys2Proof.Machine.execStaAbx addr s
  | .staAby addr => Sys2Proof.Machine.execStaAby addr s
  | .staIzx ll => Sys2Proof.Machine.execStaIzx ll s
  | .staIzy ll => Sys2Proof.Machine.execStaIzy ll s
  | .stxZp0 ll => Sys2Proof.Machine.execStxZp0 ll s
  | .stxZpy ll => Sys2Proof.Machine.execStxZpy ll s
  | .stxAbs addr => Sys2Proof.Machine.execStxAbs addr s
  | .styZp0 ll => Sys2Proof.Machine.execStyZp0 ll s
  | .styZpx ll => Sys2Proof.Machine.execStyZpx ll s
  | .styAbs addr => Sys2Proof.Machine.execStyAbs addr s
  | .taxImp => Sys2Proof.Machine.execTaxImp s
  | .tayImp => Sys2Proof.Machine.execTayImp s
  | .tsxImp => Sys2Proof.Machine.execTsxImp s
  | .txaImp => Sys2Proof.Machine.execTxaImp s
  | .txsImp => Sys2Proof.Machine.execTxsImp s
  | .tyaImp => Sys2Proof.Machine.execTyaImp s
  -- arithmetic and logic (42_arithmetic_logic)
  | .adcImm v => Sys2Proof.Machine.execAdcImm v s
  | .adcZp0 ll => Sys2Proof.Machine.execAdcZp0 ll s
  | .adcZpx ll => Sys2Proof.Machine.execAdcZpx ll s
  | .adcAbs addr => Sys2Proof.Machine.execAdcAbs addr s
  | .adcAbx addr => Sys2Proof.Machine.execAdcAbx addr s
  | .adcAby addr => Sys2Proof.Machine.execAdcAby addr s
  | .adcIzx ll => Sys2Proof.Machine.execAdcIzx ll s
  | .adcIzy ll => Sys2Proof.Machine.execAdcIzy ll s
  | .sbcImm v => Sys2Proof.Machine.execSbcImm v s
  | .sbcZp0 ll => Sys2Proof.Machine.execSbcZp0 ll s
  | .sbcZpx ll => Sys2Proof.Machine.execSbcZpx ll s
  | .sbcAbs addr => Sys2Proof.Machine.execSbcAbs addr s
  | .sbcAbx addr => Sys2Proof.Machine.execSbcAbx addr s
  | .sbcAby addr => Sys2Proof.Machine.execSbcAby addr s
  | .sbcIzx ll => Sys2Proof.Machine.execSbcIzx ll s
  | .sbcIzy ll => Sys2Proof.Machine.execSbcIzy ll s
  | .andImm v => Sys2Proof.Machine.execAndImm v s
  | .andZp0 ll => Sys2Proof.Machine.execAndZp0 ll s
  | .andZpx ll => Sys2Proof.Machine.execAndZpx ll s
  | .andAbs addr => Sys2Proof.Machine.execAndAbs addr s
  | .andAbx addr => Sys2Proof.Machine.execAndAbx addr s
  | .andAby addr => Sys2Proof.Machine.execAndAby addr s
  | .andIzx ll => Sys2Proof.Machine.execAndIzx ll s
  | .andIzy ll => Sys2Proof.Machine.execAndIzy ll s
  | .oraImm v => Sys2Proof.Machine.execOraImm v s
  | .oraZp0 ll => Sys2Proof.Machine.execOraZp0 ll s
  | .oraZpx ll => Sys2Proof.Machine.execOraZpx ll s
  | .oraAbs addr => Sys2Proof.Machine.execOraAbs addr s
  | .oraAbx addr => Sys2Proof.Machine.execOraAbx addr s
  | .oraAby addr => Sys2Proof.Machine.execOraAby addr s
  | .oraIzx ll => Sys2Proof.Machine.execOraIzx ll s
  | .oraIzy ll => Sys2Proof.Machine.execOraIzy ll s
  | .eorImm v => Sys2Proof.Machine.execEorImm v s
  | .eorZp0 ll => Sys2Proof.Machine.execEorZp0 ll s
  | .eorZpx ll => Sys2Proof.Machine.execEorZpx ll s
  | .eorAbs addr => Sys2Proof.Machine.execEorAbs addr s
  | .eorAbx addr => Sys2Proof.Machine.execEorAbx addr s
  | .eorAby addr => Sys2Proof.Machine.execEorAby addr s
  | .eorIzx ll => Sys2Proof.Machine.execEorIzx ll s
  | .eorIzy ll => Sys2Proof.Machine.execEorIzy ll s
  | .bitZp0 ll => Sys2Proof.Machine.execBitZp0 ll s
  | .bitAbs addr => Sys2Proof.Machine.execBitAbs addr s
  | .cmpImm v => Sys2Proof.Machine.execCmpImm v s
  | .cmpZp0 ll => Sys2Proof.Machine.execCmpZp0 ll s
  | .cmpZpx ll => Sys2Proof.Machine.execCmpZpx ll s
  | .cmpAbs addr => Sys2Proof.Machine.execCmpAbs addr s
  | .cmpAbx addr => Sys2Proof.Machine.execCmpAbx addr s
  | .cmpAby addr => Sys2Proof.Machine.execCmpAby addr s
  | .cmpIzx ll => Sys2Proof.Machine.execCmpIzx ll s
  | .cmpIzy ll => Sys2Proof.Machine.execCmpIzy ll s
  | .cpxImm v => Sys2Proof.Machine.execCpxImm v s
  | .cpxZp0 ll => Sys2Proof.Machine.execCpxZp0 ll s
  | .cpxAbs addr => Sys2Proof.Machine.execCpxAbs addr s
  | .cpyImm v => Sys2Proof.Machine.execCpyImm v s
  | .cpyZp0 ll => Sys2Proof.Machine.execCpyZp0 ll s
  | .cpyAbs addr => Sys2Proof.Machine.execCpyAbs addr s
  | .incZp0 ll => Sys2Proof.Machine.execIncZp0 ll s
  | .incZpx ll => Sys2Proof.Machine.execIncZpx ll s
  | .incAbs addr => Sys2Proof.Machine.execIncAbs addr s
  | .incAbx addr => Sys2Proof.Machine.execIncAbx addr s
  | .inxImp => Sys2Proof.Machine.execInxImp s
  | .inyImp => Sys2Proof.Machine.execInyImp s
  | .decZp0 ll => Sys2Proof.Machine.execDecZp0 ll s
  | .decZpx ll => Sys2Proof.Machine.execDecZpx ll s
  | .decAbs addr => Sys2Proof.Machine.execDecAbs addr s
  | .decAbx addr => Sys2Proof.Machine.execDecAbx addr s
  | .dexImp => Sys2Proof.Machine.execDexImp s
  | .deyImp => Sys2Proof.Machine.execDeyImp s
  -- shifts and rotates (43_shift_rotate)
  | .aslImp => Sys2Proof.Machine.execAslImp s
  | .aslZp0 ll => Sys2Proof.Machine.execAslZp0 ll s
  | .aslZpx ll => Sys2Proof.Machine.execAslZpx ll s
  | .aslAbs addr => Sys2Proof.Machine.execAslAbs addr s
  | .aslAbx addr => Sys2Proof.Machine.execAslAbx addr s
  | .lsrImp => Sys2Proof.Machine.execLsrImp s
  | .lsrZp0 ll => Sys2Proof.Machine.execLsrZp0 ll s
  | .lsrZpx ll => Sys2Proof.Machine.execLsrZpx ll s
  | .lsrAbs addr => Sys2Proof.Machine.execLsrAbs addr s
  | .lsrAbx addr => Sys2Proof.Machine.execLsrAbx addr s
  | .rolImp => Sys2Proof.Machine.execRolImp s
  | .rolZp0 ll => Sys2Proof.Machine.execRolZp0 ll s
  | .rolZpx ll => Sys2Proof.Machine.execRolZpx ll s
  | .rolAbs addr => Sys2Proof.Machine.execRolAbs addr s
  | .rolAbx addr => Sys2Proof.Machine.execRolAbx addr s
  | .rorImp => Sys2Proof.Machine.execRorImp s
  | .rorZp0 ll => Sys2Proof.Machine.execRorZp0 ll s
  | .rorZpx ll => Sys2Proof.Machine.execRorZpx ll s
  | .rorAbs addr => Sys2Proof.Machine.execRorAbs addr s
  | .rorAbx addr => Sys2Proof.Machine.execRorAbx addr s
  -- control flow (44_control_flow)
  | .bccRel rr => Sys2Proof.Machine.execBccRel rr s
  | .bcsRel rr => Sys2Proof.Machine.execBcsRel rr s
  | .beqRel rr => Sys2Proof.Machine.execBeqRel rr s
  | .bmiRel rr => Sys2Proof.Machine.execBmiRel rr s
  | .bneRel rr => Sys2Proof.Machine.execBneRel rr s
  | .bplRel rr => Sys2Proof.Machine.execBplRel rr s
  | .bvcRel rr => Sys2Proof.Machine.execBvcRel rr s
  | .bvsRel rr => Sys2Proof.Machine.execBvsRel rr s
  | .jmpAbs addr => Sys2Proof.Machine.execJmpAbs addr s
  | .jmpInd ptr => Sys2Proof.Machine.execJmpInd ptr s
  | .jsrAbs addr => Sys2Proof.Machine.execJsrAbs addr s
  | .rtsImp => Sys2Proof.Machine.execRtsImp s
  -- stack, flags and system (45_stack_flags_system)
  | .phaImp => Sys2Proof.Machine.execPhaImp s
  | .phpImp => Sys2Proof.Machine.execPhpImp s
  | .plaImp => Sys2Proof.Machine.execPlaImp s
  | .plpImp => Sys2Proof.Machine.execPlpImp s
  | .clcImp => Sys2Proof.Machine.execClcImp s
  | .cldImp => Sys2Proof.Machine.execCldImp s
  | .cliImp => Sys2Proof.Machine.execCliImp s
  | .clvImp => Sys2Proof.Machine.execClvImp s
  | .secImp => Sys2Proof.Machine.execSecImp s
  | .sedImp => Sys2Proof.Machine.execSedImp s
  | .seiImp => Sys2Proof.Machine.execSeiImp s
  | .brkImp => Sys2Proof.Machine.execBrkImp s
  | .rtiImp => Sys2Proof.Machine.execRtiImp s
  | .nopImp => Sys2Proof.Machine.execNopImp s
  -- illegal opcodes (30_encoding R115)
  | .ill02 => Sys2Proof.Machine.execIll02 s
  | .ill03 => Sys2Proof.Machine.execIll03 s
  | .ill04 => Sys2Proof.Machine.execIll04 s
  | .ill07 => Sys2Proof.Machine.execIll07 s
  | .ill0B => Sys2Proof.Machine.execIll0B s
  | .ill0C => Sys2Proof.Machine.execIll0C s
  | .ill0F => Sys2Proof.Machine.execIll0F s
  | .ill12 => Sys2Proof.Machine.execIll12 s
  | .ill13 => Sys2Proof.Machine.execIll13 s
  | .ill14 => Sys2Proof.Machine.execIll14 s
  | .ill17 => Sys2Proof.Machine.execIll17 s
  | .ill1A => Sys2Proof.Machine.execIll1A s
  | .ill1B => Sys2Proof.Machine.execIll1B s
  | .ill1C => Sys2Proof.Machine.execIll1C s
  | .ill1F => Sys2Proof.Machine.execIll1F s
  | .ill22 => Sys2Proof.Machine.execIll22 s
  | .ill23 => Sys2Proof.Machine.execIll23 s
  | .ill27 => Sys2Proof.Machine.execIll27 s
  | .ill2B => Sys2Proof.Machine.execIll2B s
  | .ill2F => Sys2Proof.Machine.execIll2F s
  | .ill32 => Sys2Proof.Machine.execIll32 s
  | .ill33 => Sys2Proof.Machine.execIll33 s
  | .ill34 => Sys2Proof.Machine.execIll34 s
  | .ill37 => Sys2Proof.Machine.execIll37 s
  | .ill3A => Sys2Proof.Machine.execIll3A s
  | .ill3B => Sys2Proof.Machine.execIll3B s
  | .ill3C => Sys2Proof.Machine.execIll3C s
  | .ill3F => Sys2Proof.Machine.execIll3F s
  | .ill42 => Sys2Proof.Machine.execIll42 s
  | .ill43 => Sys2Proof.Machine.execIll43 s
  | .ill44 => Sys2Proof.Machine.execIll44 s
  | .ill47 => Sys2Proof.Machine.execIll47 s
  | .ill4B => Sys2Proof.Machine.execIll4B s
  | .ill4F => Sys2Proof.Machine.execIll4F s
  | .ill52 => Sys2Proof.Machine.execIll52 s
  | .ill53 => Sys2Proof.Machine.execIll53 s
  | .ill54 => Sys2Proof.Machine.execIll54 s
  | .ill57 => Sys2Proof.Machine.execIll57 s
  | .ill5A => Sys2Proof.Machine.execIll5A s
  | .ill5B => Sys2Proof.Machine.execIll5B s
  | .ill5C => Sys2Proof.Machine.execIll5C s
  | .ill5F => Sys2Proof.Machine.execIll5F s
  | .ill62 => Sys2Proof.Machine.execIll62 s
  | .ill63 => Sys2Proof.Machine.execIll63 s
  | .ill64 => Sys2Proof.Machine.execIll64 s
  | .ill67 => Sys2Proof.Machine.execIll67 s
  | .ill6B => Sys2Proof.Machine.execIll6B s
  | .ill6F => Sys2Proof.Machine.execIll6F s
  | .ill72 => Sys2Proof.Machine.execIll72 s
  | .ill73 => Sys2Proof.Machine.execIll73 s
  | .ill74 => Sys2Proof.Machine.execIll74 s
  | .ill77 => Sys2Proof.Machine.execIll77 s
  | .ill7A => Sys2Proof.Machine.execIll7A s
  | .ill7B => Sys2Proof.Machine.execIll7B s
  | .ill7C => Sys2Proof.Machine.execIll7C s
  | .ill7F => Sys2Proof.Machine.execIll7F s
  | .ill80 => Sys2Proof.Machine.execIll80 s
  | .ill82 => Sys2Proof.Machine.execIll82 s
  | .ill83 => Sys2Proof.Machine.execIll83 s
  | .ill87 => Sys2Proof.Machine.execIll87 s
  | .ill89 => Sys2Proof.Machine.execIll89 s
  | .ill8B => Sys2Proof.Machine.execIll8B s
  | .ill8F => Sys2Proof.Machine.execIll8F s
  | .ill92 => Sys2Proof.Machine.execIll92 s
  | .ill93 => Sys2Proof.Machine.execIll93 s
  | .ill97 => Sys2Proof.Machine.execIll97 s
  | .ill9B => Sys2Proof.Machine.execIll9B s
  | .ill9C => Sys2Proof.Machine.execIll9C s
  | .ill9E => Sys2Proof.Machine.execIll9E s
  | .ill9F => Sys2Proof.Machine.execIll9F s
  | .illA3 => Sys2Proof.Machine.execIllA3 s
  | .illA7 => Sys2Proof.Machine.execIllA7 s
  | .illAB => Sys2Proof.Machine.execIllAB s
  | .illAF => Sys2Proof.Machine.execIllAF s
  | .illB2 => Sys2Proof.Machine.execIllB2 s
  | .illB3 => Sys2Proof.Machine.execIllB3 s
  | .illB7 => Sys2Proof.Machine.execIllB7 s
  | .illBB => Sys2Proof.Machine.execIllBB s
  | .illBF => Sys2Proof.Machine.execIllBF s
  | .illC2 => Sys2Proof.Machine.execIllC2 s
  | .illC3 => Sys2Proof.Machine.execIllC3 s
  | .illC7 => Sys2Proof.Machine.execIllC7 s
  | .illCB => Sys2Proof.Machine.execIllCB s
  | .illCF => Sys2Proof.Machine.execIllCF s
  | .illD2 => Sys2Proof.Machine.execIllD2 s
  | .illD3 => Sys2Proof.Machine.execIllD3 s
  | .illD4 => Sys2Proof.Machine.execIllD4 s
  | .illD7 => Sys2Proof.Machine.execIllD7 s
  | .illDA => Sys2Proof.Machine.execIllDA s
  | .illDB => Sys2Proof.Machine.execIllDB s
  | .illDC => Sys2Proof.Machine.execIllDC s
  | .illDF => Sys2Proof.Machine.execIllDF s
  | .illE2 => Sys2Proof.Machine.execIllE2 s
  | .illE3 => Sys2Proof.Machine.execIllE3 s
  | .illE7 => Sys2Proof.Machine.execIllE7 s
  | .illEB => Sys2Proof.Machine.execIllEB s
  | .illEF => Sys2Proof.Machine.execIllEF s
  | .illF2 => Sys2Proof.Machine.execIllF2 s
  | .illF3 => Sys2Proof.Machine.execIllF3 s
  | .illF4 => Sys2Proof.Machine.execIllF4 s
  | .illF7 => Sys2Proof.Machine.execIllF7 s
  | .illFA => Sys2Proof.Machine.execIllFA s
  | .illFB => Sys2Proof.Machine.execIllFB s
  | .illFC => Sys2Proof.Machine.execIllFC s
  | .illFF => Sys2Proof.Machine.execIllFF s

end Sys2Proof.Machine
end

