-- ==== Sys2Proof/Machine/Clock.lean ====
section
/-! DEFINITION. The clocks: instruction fetch and the CPU tick (40_execution R140), the picture timing unit
(60_exceptions R291), the bus clock (R289), and the host's single step (R295). -/

namespace Sys2Proof.Machine

/-- Fetches the instruction at PC, byte by byte in ascending address order, no byte more than the opcode's
mode takes (20_memory R73, 30_encoding R110, R113). Nothing is written. -/
def fetch (s : State) : Except Fault Instr := do
  let op ← memRead s s.pc
  match operandBytes op with
  | 0 => return decodeOp op 0 0
  | 1 => do
    let b1 ← memRead s (s.pc + 1)
    return decodeOp op b1 0
  | _ => do
    let b1 ← memRead s (s.pc + 1)
    let b2 ← memRead s (s.pc + 2)
    return decodeOp op b1 b2

/-- `CpuClock()` (40_execution R140): a fetch tick runs a whole instruction, a wait tick counts down. -/
def cpuClock (s : State) : Host.Outcome State Fault Refusal :=
  if s.cycles = 0 then
    match fetch s with
    | .ok i => exec i s
    | .error f => .fault f
  else .next { s with cycles := s.cycles - 1, isCompleteCycle := false }

/-- `PpuClock()` (60_exceptions R291): 341 ticks a scanline, scanlines -1 to 260, then the frame-complete
signal. -/
def ppuClock (s : State) : State :=
  if s.ppuCycle + 1 > 340 then
    if s.ppuScanline + 1 > 260 then
      { s with ppuCycle := 0, ppuScanline := -1, frameComplete := true }
    else { s with ppuCycle := 0, ppuScanline := s.ppuScanline + 1 }
  else { s with ppuCycle := s.ppuCycle + 1 }

/-- The counter's increment at the end of a bus tick (60_exceptions R289). -/
def countBusClock (s : State) : State := { s with busClockCounter := s.busClockCounter + 1 }

/-- `BusClock()` (60_exceptions R289): the picture unit every call, the CPU when the counter is a multiple
of three, then the counter. -/
def busClock (s : State) : Host.Outcome State Fault Refusal :=
  let s := ppuClock s
  if s.busClockCounter % 3 = 0 then
    match cpuClock s with
    | .next t => .next (countBusClock t)
    | .fault f => .fault f
    | .refused r => .refused r
  else .next (countBusClock s)

/-- `n` calls of `BusClock`, stopping at the first that does not complete. -/
def busClocks (n : Nat) (s : State) : Host.Outcome State Fault Refusal :=
  match n with
  | 0 => .next s
  | n + 1 =>
    match busClock s with
    | .next t => busClocks n t
    | .fault f => .fault f
    | .refused r => .refused r

/-- The `BusClock` calls before the one in which the CPU fetches: up to the next multiple of three, then
three for each pending cycle (60_exceptions R289, 70_reset_and_hazards R328). -/
def callsBeforeFetch (s : State) : Nat := (3 - s.busClockCounter % 3) % 3 + 3 * s.cycles

/-- "Step one instruction": `BusClock` until a call in which the CPU fetched and completed an instruction
(60_exceptions R295 (b)). -/
def stepInstruction (s : State) : Host.Outcome State Fault Refusal :=
  busClocks (callsBeforeFetch s + 1) s

end Sys2Proof.Machine
end

