-- ==== Sys2Proof/Machine/Disassembler.lean ====
section
/-! DEFINITION. The disassembler (30_encoding R118, R119): a read-only host facility. A line is a list of
characters. The strings are not machine state and no rule of the machine reads them. -/

namespace Sys2Proof.Machine

/-- The upper-case hexadecimal digit of a number below 16. -/
def hexDigit (n : Nat) : Char := if n < 10 then Char.ofNat (48 + n) else Char.ofNat (55 + n)

/-- A byte as two hexadecimal digits. -/
def hexByte (b : Byte) : List Char := [hexDigit (b.toNat / 16), hexDigit (b.toNat % 16)]

/-- A word as four hexadecimal digits. -/
def hexWord (w : Word) : List Char := hexByte (hiByte w) ++ hexByte (loByte w)

/-- A byte as `$hh`. -/
def dollarByte (b : Byte) : List Char := '$' :: hexByte b

/-- A word as `$hhhh`. -/
def dollarWord (w : Word) : List Char := '$' :: hexWord w

/-- The tag of a mode. -/
def modeTag (m : Mode) : List Char :=
  match m with
  | .IMP => ['I', 'M', 'P']
  | .IMM => ['I', 'M', 'M']
  | .ZP0 => ['Z', 'P', '0']
  | .ZPX => ['Z', 'P', 'X']
  | .ZPY => ['Z', 'P', 'Y']
  | .REL => ['R', 'E', 'L']
  | .ABS => ['A', 'B', 'S']
  | .ABX => ['A', 'B', 'X']
  | .ABY => ['A', 'B', 'Y']
  | .IND => ['I', 'N', 'D']
  | .IZX => ['I', 'Z', 'X']
  | .IZY => ['I', 'Z', 'Y']

/-- The mode's tag between curly brackets, which are characters 123 and 125. -/
def bracedTag (m : Mode) : List Char := Char.ofNat 123 :: modeTag m ++ [Char.ofNat 125]

/-- The target of a relative branch at `addr` with offset byte `rr` (30_encoding R118). -/
def relativeTarget (addr : Word) (rr : Byte) : Word := addr + 2 + signExtend rr

/-- The operand of a line for the instruction at `addr` (30_encoding R118). -/
def operandText (addr : Word) (f : Form) : List Char :=
  match f with
  | .imp => []
  | .imm v => '#' :: dollarByte v
  | .zp0 ll => dollarByte ll
  | .zpx ll => dollarByte ll ++ [',', ' ', 'X']
  | .zpy ll => dollarByte ll ++ [',', ' ', 'Y']
  | .rel rr => dollarByte rr ++ [' ', '['] ++ dollarWord (relativeTarget addr rr) ++ [']']
  | .abs w => dollarWord w
  | .abx w => dollarWord w ++ [',', ' ', 'X']
  | .aby w => dollarWord w ++ [',', ' ', 'Y']
  | .ind w => '(' :: dollarWord w ++ [')']
  | .izx ll => '(' :: dollarByte ll ++ [',', ' ', 'X', ')']
  | .izy ll => '(' :: dollarByte ll ++ [')', ',', ' ', 'Y']

/-- One line of the listing (30_encoding R118). -/
def disassemblyLine (addr : Word) (d : Descriptor) (f : Form) : List Char :=
  dollarWord addr ++ [':', ' '] ++ d.name ++ [' '] ++ operandText addr f ++ [' '] ++ bracedTag d.mode

/-- The lines from address `addr` on while it is at most `stop`, at most `fuel` of them (30_encoding
R119). The bytes are read with read-only bus reads, whose addresses wrap; the range does not (log 11). -/
def disassembleFrom (fuel : Nat) (s : State) (addr stop : Nat) : Except Fault (List (List Char)) :=
  match fuel with
  | 0 => .ok []
  | fuel + 1 =>
    if addr ≤ stop then do
      let a := BitVec.ofNat 16 addr
      let op ← busRead s a true
      let d := tableEntry s.cfg op
      let f ← fetchForm d.mode { s with pc := a + 1 }
      let rest ← disassembleFrom fuel s (addr + 1 + operandCount d.mode) stop
      return disassemblyLine a d f :: rest
    else .ok []

/-- `Disassemble(start, stop)` (30_encoding R119). Every line covers at least one address, so the fuel
never runs out. -/
def disassemble (s : State) (start stop : Word) : Except Fault (List (List Char)) :=
  disassembleFrom (stop.toNat + 1 - start.toNat) s start.toNat stop.toNat

end Sys2Proof.Machine
end

