-- ==== Sys2Proof/Machine/HostActions.lean ====
section
/-! DEFINITION. The host's actions (60_exceptions R298) and the host's script, and how an instruction is
placed where the machine fetches next. -/

namespace Sys2Proof.Machine

/-- What the host reads of the machine (60_exceptions R295 (a), R298). -/
structure Snapshot where
  accumulator : Byte
  xRegister : Byte
  yRegister : Byte
  stackPointer : Byte
  programCounter : Word
  statusRegister : Byte
  isCompleteCycle : Bool
  frameComplete : Bool
deriving DecidableEq, Repr

/-- The host's snapshot (60_exceptions R295 (a)). -/
def snapshot (s : State) : Snapshot where
  accumulator := s.a
  xRegister := s.x
  yRegister := s.y
  stackPointer := s.sp
  programCounter := s.pc
  statusRegister := s.p
  isCompleteCycle := s.isCompleteCycle
  frameComplete := s.frameComplete

/-- `getFlag` on a snapshot (10_state R25, 60_exceptions R295 (a)). -/
def Snapshot.getFlag (v : Snapshot) (f : Flag) : Bool := Machine.getFlag v.statusRegister f

/-- `ClearFrameComplete()` (60_exceptions R292). -/
def clearFrameComplete (s : State) : State := { s with frameComplete := false }

/-- `InsertCartridge(c)` (20_memory R89). -/
def insertCartridge (c : Cartridge) (s : State) : State := { s with cart := some c }

/-- The state an action leaves when it only returns something to the host: the same, or a fault of the
access it makes (20_memory R66, 30_encoding R119). -/
def observed {α : Type} (s : State) (r : Except Fault α) : Host.Outcome State Fault Refusal :=
  match r with
  | .ok _ => .next s
  | .error f => .fault f

/-- One host action (60_exceptions R298). What `loadCartridge`, `busRead`, `ppuRead`, `snapshot` and
`disassemble` return to the host is the value of the function of that name. -/
def perform (act : HostAction) (s : State) : Host.Outcome State Fault Refusal :=
  match act with
  | .stepInstruction => stepInstruction s
  | .busClock => busClock s
  | .busReset => outcomeOf (busReset s)
  | .cpuClock => cpuClock s
  | .cpuReset => outcomeOf (cpuReset s)
  | .irq => outcomeOf (irq s)
  | .nmi => outcomeOf (nmi s)
  | .ppuClock => .next (ppuClock s)
  | .clearFrameComplete => .next (clearFrameComplete s)
  | .loadCartridge _ => .next s
  | .insertCartridge c => .next (insertCartridge c s)
  | .busRead a ro => observed s (busRead s a ro)
  | .busWrite a v => outcomeOf (busWrite s a v)
  | .ppuRead a ro => observed s (ppuRead s a ro)
  | .ppuWrite a v => outcomeOf (ppuWrite s a v)
  | .snapshot => .next s
  | .disassemble start stop => observed s (disassemble s start stop)

/-- The host's next action: the first of its script, else stepping one instruction (log 3). -/
def nextAction (s : State) : Host.Outcome State Fault Refusal :=
  match s.script with
  | [] => perform .stepInstruction s
  | act :: rest => perform act { s with script := rest }

/-- Byte `v` stored in the cell that address `a` names, whatever `PRG_WRITABLE` says: how a program is
loaded from outside the machine. -/
def placeByte (s : State) (a : Word) (v : Byte) : State :=
  match busDecode s a with
  | .ok (.prg k) => { s with cart := s.cart.map fun c => { c with prg := c.prg.write k v } }
  | .ok t => writeTarget s t v
  | .error _ => s

/-- The bytes stored at `a` and the addresses after it. -/
def placeBytes (s : State) (a : Word) (bytes : List Byte) : State :=
  match bytes with
  | [] => s
  | v :: rest => placeBytes (placeByte s a v) (a + 1) rest

/-- The bytes that stand at `a` and after it are these. -/
def holdsBytes (s : State) (a : Word) (bytes : List Byte) : Bool :=
  match bytes with
  | [] => true
  | v :: rest =>
    (match busRead s a true with
      | .ok u => u == v
      | .error _ => false) && holdsBytes s (a + 1) rest

/-- The state whose next step fetches exactly these bytes: they are placed at PC and the host's script is
emptied. Where PC names no storage (unmapped space, or a cartridge without a mapper), PC is moved to
0x0000 and such a cartridge taken out, so that they can be placed in RAM (log 6). -/
def placeInstruction (s : State) (bytes : List Byte) : State :=
  let s := { s with script := [] }
  let t := placeBytes s s.pc bytes
  if holdsBytes t t.pc bytes then t
  else
    let keep := s.cart.filter fun c => c.header.mapper.isSome
    placeBytes { s with pc := 0, cart := keep } 0 bytes

end Sys2Proof.Machine
end

