-- ==== Sys2Proof/Machine/Step.lean ====
section
/-! DEFINITION. One step of the machine: one action of the host, by default the stepping of one
instruction. -/

namespace Sys2Proof.Machine

/-- One step: the host's next action (00_scope R8, 60_exceptions R298; log 3). -/
def step (s : State) : Host.Outcome State Fault Refusal := nextAction s

/-- The state with the instruction whose bits are `w` stored where the next step fetches (log 6). -/
def State.withFetchWord (s : State) (nbits w : Nat) : State := placeInstruction s (tableBytes nbits w)

end Sys2Proof.Machine
end

