-- ==== Sys2Proof/Machine/TableClock.lean ====
section
/-! DEFINITION. `CpuClock` as 40_execution R140 writes it, run off the descriptor table: the opcode byte
selects an entry, the entry's mode routine reads the operand bytes at PC, the entry's opcode routine runs,
and the entry's base count is loaded. `cpuClock`, which decodes and dispatches, is to agree with it. -/

namespace Sys2Proof.Machine

/-- The opcode routine a table entry binds (30_encoding R113, R115). -/
def routineOf (d : Descriptor) : Form → State → Except Fault Effect :=
  match d.routine with
  | .xxx => opStub d.opcodeExtra
  | .of .NOP => opStub d.opcodeExtra
  | .of .ADC => opAdc
  | .of .AND => opAnd
  | .of .ASL => opAsl
  | .of .BCC => opBcc
  | .of .BCS => opBcs
  | .of .BEQ => opBeq
  | .of .BIT => opBit
  | .of .BMI => opBmi
  | .of .BNE => opBne
  | .of .BPL => opBpl
  | .of .BRK => opBrk
  | .of .BVC => opBvc
  | .of .BVS => opBvs
  | .of .CLC => opClc
  | .of .CLD => opCld
  | .of .CLI => opCli
  | .of .CLV => opClv
  | .of .CMP => opCmp
  | .of .CPX => opCpx
  | .of .CPY => opCpy
  | .of .DEC => opDec
  | .of .DEX => opDex
  | .of .DEY => opDey
  | .of .EOR => opEor
  | .of .INC => opInc
  | .of .INX => opInx
  | .of .INY => opIny
  | .of .JMP => opJmp
  | .of .JSR => opJsr
  | .of .LDA => opLda
  | .of .LDX => opLdx
  | .of .LDY => opLdy
  | .of .LSR => opLsr
  | .of .ORA => opOra
  | .of .PHA => opPha
  | .of .PHP => opPhp
  | .of .PLA => opPla
  | .of .PLP => opPlp
  | .of .ROL => opRol
  | .of .ROR => opRor
  | .of .RTI => opRti
  | .of .RTS => opRts
  | .of .SBC => opSbc
  | .of .SEC => opSec
  | .of .SED => opSed
  | .of .SEI => opSei
  | .of .STA => opSta
  | .of .STX => opStx
  | .of .STY => opSty
  | .of .TAX => opTax
  | .of .TAY => opTay
  | .of .TSX => opTsx
  | .of .TXA => opTxa
  | .of .TXS => opTxs
  | .of .TYA => opTya

/-- The fetch tick of 40_execution R140, off the table. -/
def tableTick (s : State) : Except Fault State := do
  let op ← memRead s s.pc
  let e := tableEntry s.cfg op
  let s := afterOpcode op s
  let f ← fetchForm e.mode s
  let (s, addrExtra) ← resolve f s
  let eff ← routineOf e f s
  return finish e.baseCycles addrExtra eff

/-- `CpuClock()` (40_execution R140), off the table. -/
def tableClock (s : State) : Host.Outcome State Fault Refusal :=
  if s.cycles = 0 then outcomeOf (tableTick s)
  else .next { s with cycles := s.cycles - 1, isCompleteCycle := false }

end Sys2Proof.Machine
end

