-- ==== Sys2Proof/WellFormed.lean ====
section
/-! DEFINITION. Well-formedness. An `Instr` has no ill-formed term: its operand has the width its mode
gives it (30_encoding R112). What can be ill-formed is an assembly line, a mnemonic with an operand form:
the table gives each mnemonic certain modes and "nothing else is accepted" (30_encoding R114, R120). -/

namespace Sys2Proof

/-- The instruction of an assembly line, if the table gives the mnemonic that mode (30_encoding R114,
R120). -/
def assemble (m : Mnemonic) (f : Form) : Option Instr :=
  match m, f with
  | .LDA, .imm v => some (.ldaImm v)
  | .LDA, .zp0 ll => some (.ldaZp0 ll)
  | .LDA, .zpx ll => some (.ldaZpx ll)
  | .LDA, .abs addr => some (.ldaAbs addr)
  | .LDA, .abx addr => some (.ldaAbx addr)
  | .LDA, .aby addr => some (.ldaAby addr)
  | .LDA, .izx ll => some (.ldaIzx ll)
  | .LDA, .izy ll => some (.ldaIzy ll)
  | .LDX, .imm v => some (.ldxImm v)
  | .LDX, .zp0 ll => some (.ldxZp0 ll)
  | .LDX, .zpy ll => some (.ldxZpy ll)
  | .LDX, .abs addr => some (.ldxAbs addr)
  | .LDX, .aby addr => some (.ldxAby addr)
  | .LDY, .imm v => some (.ldyImm v)
  | .LDY, .zp0 ll => some (.ldyZp0 ll)
  | .LDY, .zpx ll => some (.ldyZpx ll)
  | .LDY, .abs addr => some (.ldyAbs addr)
  | .LDY, .abx addr => some (.ldyAbx addr)
  | .STA, .zp0 ll => some (.staZp0 ll)
  | .STA, .zpx ll => some (.staZpx ll)
  | .STA, .abs addr => some (.staAbs addr)
  | .STA, .abx addr => some (.staAbx addr)
  | .STA, .aby addr => some (.staAby addr)
  | .STA, .izx ll => some (.staIzx ll)
  | .STA, .izy ll => some (.staIzy ll)
  | .STX, .zp0 ll => some (.stxZp0 ll)
  | .STX, .zpy ll => some (.stxZpy ll)
  | .STX, .abs addr => some (.stxAbs addr)
  | .STY, .zp0 ll => some (.styZp0 ll)
  | .STY, .zpx ll => some (.styZpx ll)
  | .STY, .abs addr => some (.styAbs addr)
  | .TAX, .imp => some .taxImp
  | .TAY, .imp => some .tayImp
  | .TSX, .imp => some .tsxImp
  | .TXA, .imp => some .txaImp
  | .TXS, .imp => some .txsImp
  | .TYA, .imp => some .tyaImp
  | .ADC, .imm v => some (.adcImm v)
  | .ADC, .zp0 ll => some (.adcZp0 ll)
  | .ADC, .zpx ll => some (.adcZpx ll)
  | .ADC, .abs addr => some (.adcAbs addr)
  | .ADC, .abx addr => some (.adcAbx addr)
  | .ADC, .aby addr => some (.adcAby addr)
  | .ADC, .izx ll => some (.adcIzx ll)
  | .ADC, .izy ll => some (.adcIzy ll)
  | .SBC, .imm v => some (.sbcImm v)
  | .SBC, .zp0 ll => some (.sbcZp0 ll)
  | .SBC, .zpx ll => some (.sbcZpx ll)
  | .SBC, .abs addr => some (.sbcAbs addr)
  | .SBC, .abx addr => some (.sbcAbx addr)
  | .SBC, .aby addr => some (.sbcAby addr)
  | .SBC, .izx ll => some (.sbcIzx ll)
  | .SBC, .izy ll => some (.sbcIzy ll)
  | .AND, .imm v => some (.andImm v)
  | .AND, .zp0 ll => some (.andZp0 ll)
  | .AND, .zpx ll => some (.andZpx ll)
  | .AND, .abs addr => some (.andAbs addr)
  | .AND, .abx addr => some (.andAbx addr)
  | .AND, .aby addr => some (.andAby addr)
  | .AND, .izx ll => some (.andIzx ll)
  | .AND, .izy ll => some (.andIzy ll)
  | .ORA, .imm v => some (.oraImm v)
  | .ORA, .zp0 ll => some (.oraZp0 ll)
  | .ORA, .zpx ll => some (.oraZpx ll)
  | .ORA, .abs addr => some (.oraAbs addr)
  | .ORA, .abx addr => some (.oraAbx addr)
  | .ORA, .aby addr => some (.oraAby addr)
  | .ORA, .izx ll => some (.oraIzx ll)
  | .ORA, .izy ll => some (.oraIzy ll)
  | .EOR, .imm v => some (.eorImm v)
  | .EOR, .zp0 ll => some (.eorZp0 ll)
  | .EOR, .zpx ll => some (.eorZpx ll)
  | .EOR, .abs addr => some (.eorAbs addr)
  | .EOR, .abx addr => some (.eorAbx addr)
  | .EOR, .aby addr => some (.eorAby addr)
  | .EOR, .izx ll => some (.eorIzx ll)
  | .EOR, .izy ll => some (.eorIzy ll)
  | .BIT, .zp0 ll => some (.bitZp0 ll)
  | .BIT, .abs addr => some (.bitAbs addr)
  | .CMP, .imm v => some (.cmpImm v)
  | .CMP, .zp0 ll => some (.cmpZp0 ll)
  | .CMP, .zpx ll => some (.cmpZpx ll)
  | .CMP, .abs addr => some (.cmpAbs addr)
  | .CMP, .abx addr => some (.cmpAbx addr)
  | .CMP, .aby addr => some (.cmpAby addr)
  | .CMP, .izx ll => some (.cmpIzx ll)
  | .CMP, .izy ll => some (.cmpIzy ll)
  | .CPX, .imm v => some (.cpxImm v)
  | .CPX, .zp0 ll => some (.cpxZp0 ll)
  | .CPX, .abs addr => some (.cpxAbs addr)
  | .CPY, .imm v => some (.cpyImm v)
  | .CPY, .zp0 ll => some (.cpyZp0 ll)
  | .CPY, .abs addr => some (.cpyAbs addr)
  | .INC, .zp0 ll => some (.incZp0 ll)
  | .INC, .zpx ll => some (.incZpx ll)
  | .INC, .abs addr => some (.incAbs addr)
  | .INC, .abx addr => some (.incAbx addr)
  | .INX, .imp => some .inxImp
  | .INY, .imp => some .inyImp
  | .DEC, .zp0 ll => some (.decZp0 ll)
  | .DEC, .zpx ll => some (.decZpx ll)
  | .DEC, .abs addr => some (.decAbs addr)
  | .DEC, .abx addr => some (.decAbx addr)
  | .DEX, .imp => some .dexImp
  | .DEY, .imp => some .deyImp
  | .ASL, .imp => some .aslImp
  | .ASL, .zp0 ll => some (.aslZp0 ll)
  | .ASL, .zpx ll => some (.aslZpx ll)
  | .ASL, .abs addr => some (.aslAbs addr)
  | .ASL, .abx addr => some (.aslAbx addr)
  | .LSR, .imp => some .lsrImp
  | .LSR, .zp0 ll => some (.lsrZp0 ll)
  | .LSR, .zpx ll => some (.lsrZpx ll)
  | .LSR, .abs addr => some (.lsrAbs addr)
  | .LSR, .abx addr => some (.lsrAbx addr)
  | .ROL, .imp => some .rolImp
  | .ROL, .zp0 ll => some (.rolZp0 ll)
  | .ROL, .zpx ll => some (.rolZpx ll)
  | .ROL, .abs addr => some (.rolAbs addr)
  | .ROL, .abx addr => some (.rolAbx addr)
  | .ROR, .imp => some .rorImp
  | .ROR, .zp0 ll => some (.rorZp0 ll)
  | .ROR, .zpx ll => some (.rorZpx ll)
  | .ROR, .abs addr => some (.rorAbs addr)
  | .ROR, .abx addr => some (.rorAbx addr)
  | .BCC, .rel rr => some (.bccRel rr)
  | .BCS, .rel rr => some (.bcsRel rr)
  | .BEQ, .rel rr => some (.beqRel rr)
  | .BMI, .rel rr => some (.bmiRel rr)
  | .BNE, .rel rr => some (.bneRel rr)
  | .BPL, .rel rr => some (.bplRel rr)
  | .BVC, .rel rr => some (.bvcRel rr)
  | .BVS, .rel rr => some (.bvsRel rr)
  | .JMP, .abs addr => some (.jmpAbs addr)
  | .JMP, .ind ptr => some (.jmpInd ptr)
  | .JSR, .abs addr => some (.jsrAbs addr)
  | .RTS, .imp => some .rtsImp
  | .PHA, .imp => some .phaImp
  | .PHP, .imp => some .phpImp
  | .PLA, .imp => some .plaImp
  | .PLP, .imp => some .plpImp
  | .CLC, .imp => some .clcImp
  | .CLD, .imp => some .cldImp
  | .CLI, .imp => some .cliImp
  | .CLV, .imp => some .clvImp
  | .SEC, .imp => some .secImp
  | .SED, .imp => some .sedImp
  | .SEI, .imp => some .seiImp
  | .BRK, .imp => some .brkImp
  | .RTI, .imp => some .rtiImp
  | .NOP, .imp => some .nopImp
  | _, _ => none

/-- An assembly line is well formed (30_encoding R120). -/
def wellFormed (m : Mnemonic) (f : Form) : Bool := (assemble m f).isSome

end Sys2Proof
end

