-- ==== Sys2Proof/Safety.lean ====
section
/-! DEFINITION. What the claims speak of: when the bus answers, the invariant of the machine, what every
instruction does and leaves alone, and the operand and the address of an instruction. -/

namespace Sys2Proof.Machine

/-- The bus answers every access: the slot is empty, or its cartridge's mapper has an implementation
(20_memory R71). -/
def busReady (s : State) : Bool :=
  match s.cart with
  | none => true
  | some c => c.header.mapper.isSome

/-- No access of this state or of an action in its script can raise `MapperUnavailable`. -/
def supported (s : State) : Prop :=
  busReady s = true ∧ ∀ c, HostAction.insertCartridge c ∈ s.script → c.header.mapper.isSome = true

/-- THE INVARIANT of the machine. -/
structure MachineInv (s : State) : Prop where
  /-- The Unused bit of P is 1 (10_state R31). -/
  unusedSet : s.flag .U = true
  /-- RAM is canonical and 2048 bytes long (10_state R38). -/
  ramCanonical : s.ram.wf = true
  ramWithin : s.ram.within 2048 = true
  /-- The picture-unit register RAM is canonical and 8 bytes long (10_state R45). -/
  ppuRegCanonical : s.ppuReg.wf = true
  ppuRegWithin : s.ppuReg.within 8 = true
  /-- The cartridge has a program bank and its images have the lengths its header declares (10_state R42,
  R43). -/
  cartWf : ∀ c, s.cart = some c → c.wf = true
  /-- The picture timing unit's ranges (10_state R46). -/
  ppuCycleRange : s.ppuCycle ≤ 340
  ppuScanlineLow : -1 ≤ s.ppuScanline
  ppuScanlineHigh : s.ppuScanline ≤ 260
  /-- The host inserts only cartridges of that form (20_memory R88). -/
  scriptWf : ∀ c, HostAction.insertCartridge c ∈ s.script → c.wf = true

/-- The parameters keep a machine in its invariant from power-on: RAM_INIT is 2048 canonical bytes and the
picture-unit counters start in their ranges (00_scope R5, 10_state R38, R46). -/
structure ConfigOk (c : Config) : Prop where
  ramCanonical : c.ramInit.wf = true
  ramWithin : c.ramInit.within 2048 = true
  ppuCycleRange : c.ppuInitCycle ≤ 340
  ppuScanlineLow : -1 ≤ c.ppuInitScanline
  ppuScanlineHigh : c.ppuInitScanline ≤ 260

/-- The bound on the pending-cycle counter under the default `ILLEGAL_TABLE` (10_state R35, C8). -/
def cyclesBounded (s : State) : Prop := s.cfg.illegalOverrides = [] ∧ s.cycles ≤ 8

/-- Every flag outside `fs` is the same in `q` as in `p`. -/
def sameFlagsBut (fs : List Flag) (p q : Byte) : Prop := ∀ f, f ∉ fs → getFlag q f = getFlag p f

/-- No backing store changed: RAM, picture-unit registers, cartridge. -/
def sameStores (s t : State) : Prop := t.ram = s.ram ∧ t.ppuReg = s.ppuReg ∧ t.cart = s.cart

/-- What no CPU instruction and no interrupt entry writes: the bus counter, the picture timing unit, the
parameters, the host's script, the cartridge's header and its character memory. -/
def sameDevices (s t : State) : Prop :=
  t.busClockCounter = s.busClockCounter ∧ t.ppuCycle = s.ppuCycle ∧ t.ppuScanline = s.ppuScanline ∧
  t.frameComplete = s.frameComplete ∧ t.cfg = s.cfg ∧ t.script = s.script ∧
  t.cart.map (fun c => (c.header, c.chr)) = s.cart.map (fun c => (c.header, c.chr))

/-- The cell keeps what is written to it: RAM and the picture-unit registers do, program memory when
`PRG_WRITABLE`, unmapped space not (20_memory R62, R65, R67). -/
def accepts (s : State) (k : Target) : Bool :=
  match k with
  | .ram _ => true
  | .ppuReg _ => true
  | .prg _ => s.cfg.prgWritable
  | .unmapped => false

/-- Byte `v` was written to address `a`: the cell the bus decodes it to holds `v`, if that cell keeps what
is written to it. -/
def storedAt (s t : State) (a : Word) (v : Byte) : Prop :=
  ∀ k, busDecode s a = .ok k → readTarget t k = if accepts s k then v else readTarget s k

/-- Every byte of memory but those at the addresses `stored` reads as before: the decode of every address is
the same, and so is every cell that no address of `stored` names. -/
def memoryFrame (s t : State) (stored : List Word) : Prop :=
  (∀ b, busDecode t b = busDecode s b) ∧
  ∀ k, (∀ a ∈ stored, busDecode s a ≠ .ok k) → readTarget t k = readTarget s k

/-- The effective address of an instruction about to run and the 0 or 1 its mode returns, by the function
the meaning uses, at the state the meaning uses it in (40_execution R143 to R154). -/
def addressOf (i : Instr) (s : State) : Except Fault (Word × Bool) :=
  effectiveAddress (formOf i) (afterOpcode (opcodeOf i) s)

/-- The byte an instruction about to run operates on: A in the accumulator form, the immediate byte, or the
byte at the effective address (40_execution R142). -/
def operandOf (i : Instr) (s : State) : Except Fault Byte :=
  match formOf i with
  | .imp => .ok s.a
  | .imm v => .ok v
  | _ => do
    let (a, _) ← addressOf i s
    busRead s a true

/-- The base cycle count of an instruction in the opcode table (30_encoding R114, R115). -/
def baseCyclesOf (i : Instr) : Nat := (descriptor (opcodeOf i)).baseCycles

/-- The address of the next instruction in memory (10_state R24). -/
def nextPc (i : Instr) (s : State) : Word := s.pc + BitVec.ofNat 16 (lengthOf i)

/-- The registers A, X, Y and SP. -/
def regsAre (t : State) (a x y sp : Byte) : Prop := t.a = a ∧ t.x = x ∧ t.y = y ∧ t.sp = sp

/-- What every instruction's fetch tick leaves in `t` (40_execution R140) and what none of them touches,
beside the registers, flags, PC, cycle count and memory that each rule states: the opcode register, the
completed flag, the Unused bit, the branch offset of a branch and of nothing else, and the devices. -/
structure Ran (i : Instr) (s t : State) : Prop where
  opcode : t.opcode = opcodeOf i
  complete : t.isCompleteCycle = true
  unusedSet : t.flag .U = true
  addrRel : t.addrRel = match formOf i with
    | .rel rr => signExtend rr
    | _ => s.addrRel
  devices : sameDevices s t

/-- The opcode byte of mode `mode` in the eight-mode group with this base (30_encoding R114). -/
def groupOneOpcode (base : Byte) (mode : Mode) : Option Byte :=
  match mode with
  | .IZX => some (base + 0x01)
  | .ZP0 => some (base + 0x05)
  | .IMM => some (base + 0x09)
  | .ABS => some (base + 0x0D)
  | .IZY => some (base + 0x11)
  | .ZPX => some (base + 0x15)
  | .ABY => some (base + 0x19)
  | .ABX => some (base + 0x1D)
  | _ => none

/-- The same for the shifts and rotates (30_encoding R114). -/
def shiftOpcode (base : Byte) (mode : Mode) : Option Byte :=
  match mode with
  | .ZP0 => some (base + 0x06)
  | .IMP => some (base + 0x0A)
  | .ABS => some (base + 0x0E)
  | .ZPX => some (base + 0x16)
  | .ABX => some (base + 0x1E)
  | _ => none

/-- The opcode byte each instruction's own rule gives it in a mode (41_load_store_transfer R170 to
45_stack_flags_system R263), the large groups by their regularity (30_encoding R114). -/
def opcodeAt (m : Mnemonic) (mode : Mode) : Option Byte :=
  match m with
  | .ORA => groupOneOpcode 0x00 mode
  | .AND => groupOneOpcode 0x20 mode
  | .EOR => groupOneOpcode 0x40 mode
  | .ADC => groupOneOpcode 0x60 mode
  | .LDA => groupOneOpcode 0xA0 mode
  | .CMP => groupOneOpcode 0xC0 mode
  | .SBC => groupOneOpcode 0xE0 mode
  | .STA => if mode = .IMM then none else groupOneOpcode 0x80 mode
  | .ASL => shiftOpcode 0x00 mode
  | .ROL => shiftOpcode 0x20 mode
  | .LSR => shiftOpcode 0x40 mode
  | .ROR => shiftOpcode 0x60 mode
  | .LDX => match mode with
    | .IMM => some 0xA2
    | .ZP0 => some 0xA6
    | .ZPY => some 0xB6
    | .ABS => some 0xAE
    | .ABY => some 0xBE
    | _ => none
  | .LDY => match mode with
    | .IMM => some 0xA0
    | .ZP0 => some 0xA4
    | .ZPX => some 0xB4
    | .ABS => some 0xAC
    | .ABX => some 0xBC
    | _ => none
  | .STX => match mode with
    | .ZP0 => some 0x86
    | .ZPY => some 0x96
    | .ABS => some 0x8E
    | _ => none
  | .STY => match mode with
    | .ZP0 => some 0x84
    | .ZPX => some 0x94
    | .ABS => some 0x8C
    | _ => none
  | .BIT => match mode with
    | .ZP0 => some 0x24
    | .ABS => some 0x2C
    | _ => none
  | .CPX => match mode with
    | .IMM => some 0xE0
    | .ZP0 => some 0xE4
    | .ABS => some 0xEC
    | _ => none
  | .CPY => match mode with
    | .IMM => some 0xC0
    | .ZP0 => some 0xC4
    | .ABS => some 0xCC
    | _ => none
  | .INC => match mode with
    | .ZP0 => some 0xE6
    | .ZPX => some 0xF6
    | .ABS => some 0xEE
    | .ABX => some 0xFE
    | _ => none
  | .DEC => match mode with
    | .ZP0 => some 0xC6
    | .ZPX => some 0xD6
    | .ABS => some 0xCE
    | .ABX => some 0xDE
    | _ => none
  | .JMP => match mode with
    | .ABS => some 0x4C
    | .IND => some 0x6C
    | _ => none
  | .JSR => match mode with
    | .ABS => some 0x20
    | _ => none
  | .BCC => if mode = .REL then some 0x90 else none
  | .BCS => if mode = .REL then some 0xB0 else none
  | .BEQ => if mode = .REL then some 0xF0 else none
  | .BMI => if mode = .REL then some 0x30 else none
  | .BNE => if mode = .REL then some 0xD0 else none
  | .BPL => if mode = .REL then some 0x10 else none
  | .BVC => if mode = .REL then some 0x50 else none
  | .BVS => if mode = .REL then some 0x70 else none
  | .TAX => if mode = .IMP then some 0xAA else none
  | .TAY => if mode = .IMP then some 0xA8 else none
  | .TSX => if mode = .IMP then some 0xBA else none
  | .TXA => if mode = .IMP then some 0x8A else none
  | .TXS => if mode = .IMP then some 0x9A else none
  | .TYA => if mode = .IMP then some 0x98 else none
  | .INX => if mode = .IMP then some 0xE8 else none
  | .INY => if mode = .IMP then some 0xC8 else none
  | .DEX => if mode = .IMP then some 0xCA else none
  | .DEY => if mode = .IMP then some 0x88 else none
  | .PHA => if mode = .IMP then some 0x48 else none
  | .PHP => if mode = .IMP then some 0x08 else none
  | .PLA => if mode = .IMP then some 0x68 else none
  | .PLP => if mode = .IMP then some 0x28 else none
  | .CLC => if mode = .IMP then some 0x18 else none
  | .CLD => if mode = .IMP then some 0xD8 else none
  | .CLI => if mode = .IMP then some 0x58 else none
  | .CLV => if mode = .IMP then some 0xB8 else none
  | .SEC => if mode = .IMP then some 0x38 else none
  | .SED => if mode = .IMP then some 0xF8 else none
  | .SEI => if mode = .IMP then some 0x78 else none
  | .RTS => if mode = .IMP then some 0x60 else none
  | .BRK => if mode = .IMP then some 0x00 else none
  | .RTI => if mode = .IMP then some 0x40 else none
  | .NOP => if mode = .IMP then some 0xEA else none

/-- The result of a shift or rotate of `v` with the old carry `c`, as a number, and the new carry
(43_shift_rotate R220 to R223). -/
def shiftResult (m : Mnemonic) (v : Nat) (c : Nat) : Nat × Bool :=
  match m with
  | .ASL => (2 * v % 256, decide (128 ≤ v))
  | .LSR => (v / 2, decide (v % 2 = 1))
  | .ROL => ((2 * v + c) % 256, decide (128 ≤ v))
  | _ => (v / 2 + 128 * c, decide (v % 2 = 1))

/-- The condition of a branch (44_control_flow R231 to R238). -/
def branchCondition (m : Mnemonic) (s : State) : Bool :=
  match m with
  | .BCC => !s.flag .C
  | .BCS => s.flag .C
  | .BEQ => s.flag .Z
  | .BMI => s.flag .N
  | .BNE => !s.flag .Z
  | .BPL => !s.flag .N
  | .BVC => !s.flag .V
  | .BVS => s.flag .V
  | _ => false

/-- The flag that a flag instruction writes and the value it writes (45_stack_flags_system R254 to
R260). -/
def flagWritten (m : Mnemonic) : Option (Flag × Bool) :=
  match m with
  | .CLC => some (.C, false)
  | .CLD => some (.D, false)
  | .CLI => some (.I, false)
  | .CLV => some (.V, false)
  | .SEC => some (.C, true)
  | .SED => some (.D, true)
  | .SEI => some (.I, true)
  | _ => none

/-- Pushes the bytes of a list, the first first (20_memory R79). -/
def pushAll (s : State) (vs : List Byte) : Except Fault State :=
  match vs with
  | [] => .ok s
  | v :: rest => do
    let t ← push s v
    pushAll t rest

/-- Pulls `n` bytes, and gives them in the order they came (20_memory R79). -/
def pullAll (s : State) (n : Nat) : Except Fault (State × List Byte) :=
  match n with
  | 0 => .ok (s, [])
  | n + 1 => do
    let (t, v) ← pull s
    let (u, rest) ← pullAll t n
    return (u, v :: rest)

/-- `n` ticks of the picture timing unit (60_exceptions R291). -/
def ppuClocks (n : Nat) (s : State) : State :=
  match n with
  | 0 => s
  | n + 1 => ppuClocks n (ppuClock s)

end Sys2Proof.Machine
end

