-- ==== Sys2Proof/Certificates/Slice0/Obligations.lean ====
section
/-! DEFINITION. The statements for the provers. -/

open Sys2Proof Sys2Proof.Machine

/-! ### Encoding -/

/-- Decoding an instruction's bytes gives the instruction back, with every operand at every value its width
admits, and leaves the bytes after it (30_encoding R110 to R113). -/
def Obligations.DecodeInvertsEncode : Prop :=
  ∀ (i : Instr) (rest : List Byte), decode (encode i ++ rest) = .ok (i, rest)

/-- What the decoder reads, the encoder writes: each byte string is the encoding of one instruction
(30_encoding R110, R117). -/
def Obligations.EncodeInvertsDecode : Prop :=
  ∀ (bytes : List Byte) (i : Instr) (rest : List Byte),
    decode bytes = .ok (i, rest) → encode i ++ rest = bytes

/-- Decode is total (30_encoding R113): every opcode byte followed by two bytes decodes, to an instruction
with that opcode byte and with the mode and the length of its table entry; and no instruction is refused,
nor does it trap: the only stop is `MapperUnavailable`. -/
def Obligations.EveryOpcodeByteHasAnEntry : Prop :=
  ∀ op b1 b2 : Byte, ∃ (i : Instr) (rest : List Byte),
    decode [op, b1, b2] = .ok (i, rest) ∧ opcodeOf i = op ∧ modeOf (formOf i) = (descriptor op).mode ∧
    rest.length + lengthOf i = 3 ∧
    ∀ s, (∃ t, exec i s = .next t) ∨ ∃ a, exec i s = .fault (.mapperUnavailable a)

/-- The bytes of the source's own program (30_encoding R122) and one word of each family, written out from
the table of 30_encoding R114, decode to the instructions they stand for. -/
def Obligations.WordsOfTheManualDecode : Prop :=
  decode [0xA2, 0x0A] = .ok (.ldxImm 0x0A, []) ∧
  decode [0x8E, 0x01, 0x00] = .ok (.stxAbs 0x0001, []) ∧
  decode [0xAC, 0x00, 0x00] = .ok (.ldyAbs 0x0000, []) ∧
  decode [0xA9, 0x00] = .ok (.ldaImm 0x00, []) ∧
  decode [0x18] = .ok (.clcImp, []) ∧
  decode [0x6D, 0x01, 0x00] = .ok (.adcAbs 0x0001, []) ∧
  decode [0x88] = .ok (.deyImp, []) ∧
  decode [0xD0, 0xFA] = .ok (.bneRel 0xFA, []) ∧
  decode [0x8D, 0x02, 0x00] = .ok (.staAbs 0x0002, []) ∧
  decode [0xEA, 0xEA] = .ok (.nopImp, [0xEA]) ∧
  decode [0x7E, 0x10, 0x03] = .ok (.rorAbx 0x0310, []) ∧
  decode [0x6C, 0xFF, 0x30] = .ok (.jmpInd 0x30FF, []) ∧
  decode [0x96, 0x12] = .ok (.stxZpy 0x12, []) ∧
  decode [0x00] = .ok (.brkImp, []) ∧
  decode [0xEB, 0x05] = .ok (.illEB, [0x05])

/-- The assembler gives exactly the 151 documented instructions: an assembly line makes an instruction of
that operand form whose table entry is that mnemonic's and that mode's, and every documented instruction
is made by one (30_encoding R114, R120). -/
def Obligations.AssemblerMakesTheDocumentedInstructions : Prop :=
  (∀ m f i, assemble m f = some i →
    formOf i = f ∧ opcodeAt m (modeOf f) = some (opcodeOf i) ∧
      descriptor (opcodeOf i) = entry m (modeOf f) (baseCyclesOf i)) ∧
  ∀ i, documented i = true → ∃ m, assemble m (formOf i) = some i

/-! ### The step -/

/-- `CpuClock`, which decodes and dispatches, is the procedure of 40_execution R140 run off the descriptor
table: opcode fetch, entry, mode routine, opcode routine, cycle count. In every state and for every
`ILLEGAL_TABLE`. Both sides are the model's: they share the immediate operand of log 5 and the replaced
entries of log 7. -/
def Obligations.CpuClockFollowsTheDescriptorTable : Prop := ∀ s, cpuClock s = tableClock s

/-- A step runs the decoded instruction: with no host action pending, no pending cycle and the bus counter at
a multiple of three, when the bytes at PC decode to `i` the step is `exec i`, after the picture unit's tick
and before the bus counter's increment (40_execution R140, 60_exceptions R289). That an empty script steps
one instruction is the model's choice (log 3). -/
def Obligations.StepRunsTheDecodedInstruction : Prop :=
  ∀ (s : State) (op b1 b2 : Byte) (i : Instr) (rest : List Byte),
    s.script = [] → callsBeforeFetch s = 0 →
    busRead s s.pc true = .ok op → busRead s (s.pc + 1) true = .ok b1 →
    busRead s (s.pc + 2) true = .ok b2 → decode [op, b1, b2] = .ok (i, rest) →
    step s = match exec i (ppuClock s) with
      | .next t => .next (countBusClock t)
      | .fault f => .fault f
      | .refused r => .refused r

/-- The calls before the fetch only wait: the pending cycles run out, the picture unit and the bus counter
move on by that many calls, and nothing else changes (40_execution R140, R157; 60_exceptions R289). -/
def Obligations.WaitTicksOnlyCountDown : Prop :=
  ∀ s, busClocks (callsBeforeFetch s) s =
    .next { ppuClocks (callsBeforeFetch s) s with
      cycles := 0
      isCompleteCycle := if s.cycles = 0 then s.isCompleteCycle else false
      busClockCounter := s.busClockCounter + callsBeforeFetch s }

/-- From the state just after an instruction completed in a step, with `n` cycles pending, the next step
takes 3(n + 1) `BusClock` calls; after reset it takes 25 (70_reset_and_hazards R325, R328). That an empty
script steps one instruction is the model's choice (log 3). -/
def Obligations.StepTakesThreeCallsForEachTick : Prop :=
  callsBeforeFetch State.reset + 1 = 25 ∧
  ∀ s t, s.script = [] → step s = .next t →
    t.isCompleteCycle = true ∧ callsBeforeFetch t + 1 = 3 * (t.cycles + 1)

/-! ### Addressing -/

/-- The effective addresses of the modes whose address needs no pointer (40_execution R145 to R147, R149 to
R151), in exact arithmetic: zero-page indexing wraps in page 0, word indexing modulo 2^16, and the mode
returns 1 when the high byte changed. -/
def Obligations.IndexedAddressesWrap : Prop :=
  ∀ (s : State) (ll : Byte) (w : Word),
    effectiveAddress (.zp0 ll) s = .ok (BitVec.ofNat 16 ll.toNat, false) ∧
    effectiveAddress (.zpx ll) s = .ok (BitVec.ofNat 16 ((ll.toNat + s.x.toNat) % 256), false) ∧
    effectiveAddress (.zpy ll) s = .ok (BitVec.ofNat 16 ((ll.toNat + s.y.toNat) % 256), false) ∧
    effectiveAddress (.abs w) s = .ok (w, false) ∧
    effectiveAddress (.abx w) s = .ok (BitVec.ofNat 16 (w.toNat + s.x.toNat),
      decide ((w.toNat + s.x.toNat) % 65536 / 256 ≠ w.toNat / 256)) ∧
    effectiveAddress (.aby w) s = .ok (BitVec.ofNat 16 (w.toNat + s.y.toNat),
      decide ((w.toNat + s.y.toNat) % 65536 / 256 ≠ w.toNat / 256))

/-- The zero-page pointers of IZX and IZY (40_execution R153, R154): both pointer bytes come from page 0,
each address wrapping in it; IZY then adds Y modulo 2^16 and returns 1 when the high byte changed. -/
def Obligations.ZeroPagePointersWrapInPageZero : Prop :=
  ∀ (s : State) (ll lo hi : Byte),
    (busRead s (BitVec.ofNat 16 ((ll.toNat + s.x.toNat) % 256)) true = .ok lo →
      busRead s (BitVec.ofNat 16 ((ll.toNat + s.x.toNat + 1) % 256)) true = .ok hi →
      effectiveAddress (.izx ll) s = .ok (BitVec.ofNat 16 (hi.toNat * 256 + lo.toNat), false)) ∧
    (busRead s (BitVec.ofNat 16 ll.toNat) true = .ok lo →
      busRead s (BitVec.ofNat 16 ((ll.toNat + 1) % 256)) true = .ok hi →
      effectiveAddress (.izy ll) s = .ok (BitVec.ofNat 16 (hi.toNat * 256 + lo.toNat + s.y.toNat),
        decide ((hi.toNat * 256 + lo.toNat + s.y.toNat) % 65536 / 256 ≠ hi.toNat)))

/-- The page-wrap bug of IND (40_execution R152): with a pointer whose low byte is 0xFF the high byte comes
from the start of the same page, else from the next address. -/
def Obligations.IndirectPointerStaysInItsPage : Prop :=
  ∀ (s : State) (ptr : Word) (lo hi : Byte),
    busRead s ptr true = .ok lo →
    busRead s (BitVec.ofNat 16
      (if ptr.toNat % 256 = 255 then ptr.toNat / 256 * 256 else ptr.toNat + 1)) true = .ok hi →
    effectiveAddress (.ind ptr) s = .ok (BitVec.ofNat 16 (hi.toNat * 256 + lo.toNat), false)

/-- The extra-cycle rule (40_execution R141, 70_reset_and_hazards R327): a documented instruction that is no
branch costs its base count, and one more exactly when its mode is ABX, ABY or IZY, its mnemonic is one of
ADC, AND, CMP, EOR, LDA, LDX, LDY, ORA, SBC, and the indexed address left the page of its base. -/
def Obligations.ExtraCycleNeedsModeAndRoutine : Prop :=
  ∀ (m : Mnemonic) (f : Form) (i : Instr) (s t : State) (a : Word) (cross : Bool),
    assemble m f = some i → modeOf f ≠ .REL → addressOf i s = .ok (a, cross) → exec i s = .next t →
    t.cycles = baseCyclesOf i +
      (if modeOf f ∈ [.ABX, .ABY, .IZY] ∧
          m ∈ [.ADC, .AND, .CMP, .EOR, .LDA, .LDX, .LDY, .ORA, .SBC] ∧ cross = true then 1 else 0)

/-! ### Loads, stores, transfers -/

/-- LDA, LDX and LDY in every mode (41_load_store_transfer R170 to R172): the register takes the operand, Z
and N follow it, and nothing else changes; the operand is a picture-unit register's byte from 0x2000 to
0x3FFF, and 0 from 0x4000 to 0x7FFF. -/
def Obligations.LoadsTakeTheOperand : Prop :=
  ∀ (m : Mnemonic) (f : Form) (i : Instr) (s : State),
    m ∈ [.LDA, .LDX, .LDY] → assemble m f = some i → busReady s = true →
    ∃ v a cross t, operandOf i s = .ok v ∧ addressOf i s = .ok (a, cross) ∧
      opcodeAt m (modeOf f) = some (opcodeOf i) ∧ exec i s = .next t ∧
      Ran i s t ∧
      regsAre t (if m = .LDA then v else s.a) (if m = .LDX then v else s.x)
        (if m = .LDY then v else s.y) s.sp ∧
      t.flag .Z = (v == 0) ∧ t.flag .N = bit7 v ∧ sameFlagsBut [.Z, .N, .U] s.p t.p ∧
      t.pc = nextPc i s ∧ t.cycles = baseCyclesOf i + cross.toNat ∧
      t.fetched = v ∧ t.addrAbs = a ∧ sameStores s t ∧
      (modeOf f ≠ .IMM → 0x2000 ≤ a.toNat → a.toNat < 0x4000 → v = s.ppuReg.read (a.toNat % 8)) ∧
      (modeOf f ≠ .IMM → 0x4000 ≤ a.toNat → a.toNat < 0x8000 → v = 0 ∧ t.flag .Z = true)

/-- STA, STX and STY in every mode (41_load_store_transfer R173 to R175): the register's byte goes to the
effective address, whose cell keeps it unless it is unmapped or unwritable program memory; no operand is
read, no flag and no other byte changes, and no page cross costs a cycle. The cell is RAM below 0x2000, a
picture-unit register to 0x3FFF, none to 0x7FFF, and program memory above. -/
def Obligations.StoresWriteTheRegister : Prop :=
  ∀ (m : Mnemonic) (f : Form) (i : Instr) (s : State) (r : Byte),
    m ∈ [.STA, .STX, .STY] → assemble m f = some i → busReady s = true → MachineInv s →
    r = (if m = .STA then s.a else if m = .STX then s.x else s.y) →
    ∃ a cross t, addressOf i s = .ok (a, cross) ∧ opcodeAt m (modeOf f) = some (opcodeOf i) ∧
      exec i s = .next t ∧ Ran i s t ∧
      regsAre t s.a s.x s.y s.sp ∧ sameFlagsBut [.U] s.p t.p ∧
      t.pc = nextPc i s ∧ t.cycles = baseCyclesOf i ∧ t.fetched = s.fetched ∧ t.addrAbs = a ∧
      storedAt s t a r ∧
      memoryFrame s t [a] ∧
      (a.toNat < 0x2000 → t.ram.read (a.toNat % 2048) = r) ∧
      (0x2000 ≤ a.toNat → a.toNat < 0x4000 → t.ppuReg.read (a.toNat % 8) = r) ∧
      (0x4000 ≤ a.toNat → a.toNat < 0x8000 → sameStores s t) ∧
      (0x8000 ≤ a.toNat → s.cfg.prgWritable = true → ∀ c, t.cart = some c →
        c.prg.read (if c.header.prgBanks.toNat ≤ 1 then a.toNat % 16384 else a.toNat % 32768) = r)

/-- TAX, TAY, TSX, TXA, TXS and TYA (41_load_store_transfer R176 to R181): one register takes another's
value, and Z and N follow it, except that TXS sets no flag. -/
def Obligations.TransfersCopyARegister : Prop :=
  ∀ (m : Mnemonic) (i : Instr) (s : State),
    m ∈ [.TAX, .TAY, .TSX, .TXA, .TXS, .TYA] → assemble m .imp = some i →
    ∃ t, opcodeAt m .IMP = some (opcodeOf i) ∧ exec i s = .next t ∧ Ran i s t ∧
      regsAre t (if m = .TXA then s.x else if m = .TYA then s.y else s.a)
        (if m = .TAX then s.a else if m = .TSX then s.sp else s.x)
        (if m = .TAY then s.a else s.y) (if m = .TXS then s.x else s.sp) ∧
      (m = .TXS → sameFlagsBut [.U] s.p t.p) ∧
      (m ≠ .TXS → sameFlagsBut [.Z, .N, .U] s.p t.p ∧
        ∀ v, v = (if m = .TAX ∨ m = .TAY then s.a else if m = .TSX then s.sp
          else if m = .TXA then s.x else s.y) → t.flag .Z = (v == 0) ∧ t.flag .N = bit7 v) ∧
      t.pc = s.pc + 1 ∧ t.cycles = 2 ∧ t.fetched = s.a ∧ t.addrAbs = s.addrAbs ∧ sameStores s t

/-! ### Arithmetic and logic -/

/-- ADC in every mode (42_arithmetic_logic R190, R206): the 9-bit sum of A, the operand and the carry; V
exactly when the true signed sum lies outside -128 to 127; binary whatever D holds. -/
def Obligations.AdcAddsWithCarry : Prop :=
  ∀ (f : Form) (i : Instr) (s : State), assemble .ADC f = some i → busReady s = true →
    ∃ v a cross t, operandOf i s = .ok v ∧ addressOf i s = .ok (a, cross) ∧
      opcodeAt .ADC (modeOf f) = some (opcodeOf i) ∧ exec i s = .next t ∧
      Ran i s t ∧
      regsAre t (BitVec.ofNat 8 (s.a.toNat + v.toNat + (s.flag .C).toNat)) s.x s.y s.sp ∧
      t.flag .C = decide (256 ≤ s.a.toNat + v.toNat + (s.flag .C).toNat) ∧
      t.flag .Z = (t.a == 0) ∧ t.flag .N = bit7 t.a ∧
      t.flag .V = decide (s.a.toInt + v.toInt + (s.flag .C).toNat < -128 ∨
        127 < s.a.toInt + v.toInt + (s.flag .C).toNat) ∧
      sameFlagsBut [.C, .Z, .V, .N, .U] s.p t.p ∧
      t.pc = nextPc i s ∧ t.cycles = baseCyclesOf i + cross.toNat ∧
      t.fetched = v ∧ t.addrAbs = a ∧ sameStores s t

/-- SBC in every mode (42_arithmetic_logic R191): A minus the operand minus the borrow, modulo 256; C
afterwards says "no borrow"; V exactly when the true signed difference lies outside -128 to 127; binary
whatever D holds. And result, C and V are ADC's of A and the complemented operand. -/
def Obligations.SbcSubtractsWithBorrow : Prop :=
  ∀ (f : Form) (i : Instr) (s : State), assemble .SBC f = some i → busReady s = true →
    ∃ v a cross t, operandOf i s = .ok v ∧ addressOf i s = .ok (a, cross) ∧
      opcodeAt .SBC (modeOf f) = some (opcodeOf i) ∧ exec i s = .next t ∧
      Ran i s t ∧
      regsAre t (BitVec.ofInt 8 (s.a.toNat - v.toNat - (!s.flag .C).toNat)) s.x s.y s.sp ∧
      t.flag .C = decide (v.toNat + (!s.flag .C).toNat ≤ s.a.toNat) ∧
      t.flag .Z = (t.a == 0) ∧ t.flag .N = bit7 t.a ∧
      t.flag .V = decide (s.a.toInt - v.toInt - (!s.flag .C).toNat < -128 ∨
        127 < s.a.toInt - v.toInt - (!s.flag .C).toNat) ∧
      sameFlagsBut [.C, .Z, .V, .N, .U] s.p t.p ∧
      t.pc = nextPc i s ∧ t.cycles = baseCyclesOf i + cross.toNat ∧
      t.fetched = v ∧ t.addrAbs = a ∧ sameStores s t ∧
      t.a = BitVec.ofNat 8 (s.a.toNat + (v ^^^ 0xFF).toNat + (s.flag .C).toNat) ∧
      t.flag .C = decide (256 ≤ s.a.toNat + (v ^^^ 0xFF).toNat + (s.flag .C).toNat) ∧
      t.flag .V = decide (s.a.toInt + (v ^^^ 0xFF).toInt + (s.flag .C).toNat < -128 ∨
        127 < s.a.toInt + (v ^^^ 0xFF).toInt + (s.flag .C).toNat)

/-- The two forms of V agree, and equal true signed overflow, for every pair of bytes and either carry
(42_arithmetic_logic R206). -/
def Obligations.OverflowFormsAgree : Prop :=
  ∀ (a m : Byte) (c : Bool),
    (addWithCarry a m c).v = overflowXor a m (addWithCarry a m c).result ∧
    (addWithCarry a m c).v =
      decide (a.toInt + m.toInt + c.toNat < -128 ∨ 127 < a.toInt + m.toInt + c.toNat)

/-- AND, ORA and EOR in every mode (42_arithmetic_logic R192 to R194): bit by bit, with Z and N of the
result. -/
def Obligations.LogicWorksBitByBit : Prop :=
  ∀ (m : Mnemonic) (f : Form) (i : Instr) (s : State),
    m ∈ [.AND, .ORA, .EOR] → assemble m f = some i → busReady s = true →
    ∃ v a cross t, operandOf i s = .ok v ∧ addressOf i s = .ok (a, cross) ∧
      opcodeAt m (modeOf f) = some (opcodeOf i) ∧ exec i s = .next t ∧
      Ran i s t ∧ regsAre t t.a s.x s.y s.sp ∧
      (∀ k, t.a.getLsbD k = if m = .AND then s.a.getLsbD k && v.getLsbD k
        else if m = .ORA then s.a.getLsbD k || v.getLsbD k else s.a.getLsbD k ^^ v.getLsbD k) ∧
      t.flag .Z = (t.a == 0) ∧ t.flag .N = bit7 t.a ∧ sameFlagsBut [.Z, .N, .U] s.p t.p ∧
      t.pc = nextPc i s ∧ t.cycles = baseCyclesOf i + cross.toNat ∧
      t.fetched = v ∧ t.addrAbs = a ∧ sameStores s t

/-- BIT in both modes (42_arithmetic_logic R198): Z of A AND the operand, N and V its bits 7 and 6; A is
unchanged. -/
def Obligations.BitTestsTheOperand : Prop :=
  ∀ (f : Form) (i : Instr) (s : State), assemble .BIT f = some i → busReady s = true →
    ∃ v a cross t, operandOf i s = .ok v ∧ addressOf i s = .ok (a, cross) ∧
      opcodeAt .BIT (modeOf f) = some (opcodeOf i) ∧ exec i s = .next t ∧
      Ran i s t ∧ regsAre t s.a s.x s.y s.sp ∧
      t.flag .Z = (s.a &&& v == 0) ∧ t.flag .N = v.getLsbD 7 ∧ t.flag .V = v.getLsbD 6 ∧
      sameFlagsBut [.Z, .N, .V, .U] s.p t.p ∧
      t.pc = nextPc i s ∧ t.cycles = baseCyclesOf i ∧ t.fetched = v ∧ t.addrAbs = a ∧ sameStores s t

/-- CMP, CPX and CPY in every mode (42_arithmetic_logic R195 to R197): C when the register is at least the
operand, Z when equal, N bit 7 of the difference; the register and V are unchanged. Only CMP pays for a
page cross. -/
def Obligations.ComparesSetCarryZeroNegative : Prop :=
  ∀ (m : Mnemonic) (f : Form) (i : Instr) (s : State) (r : Byte),
    m ∈ [.CMP, .CPX, .CPY] → assemble m f = some i → busReady s = true →
    r = (if m = .CMP then s.a else if m = .CPX then s.x else s.y) →
    ∃ v a cross t, operandOf i s = .ok v ∧ addressOf i s = .ok (a, cross) ∧
      opcodeAt m (modeOf f) = some (opcodeOf i) ∧ exec i s = .next t ∧
      Ran i s t ∧ regsAre t s.a s.x s.y s.sp ∧
      t.flag .C = decide (v.toNat ≤ r.toNat) ∧ t.flag .Z = decide (r = v) ∧
      t.flag .N = decide (128 ≤ (r.toNat + 256 - v.toNat) % 256) ∧
      sameFlagsBut [.C, .Z, .N, .U] s.p t.p ∧
      t.pc = nextPc i s ∧ t.cycles = baseCyclesOf i + (if m = .CMP then cross.toNat else 0) ∧
      t.fetched = v ∧ t.addrAbs = a ∧ sameStores s t

/-- INC and DEC in every mode (42_arithmetic_logic R199, R202): the byte at the effective address goes up or
down by one modulo 256, and Z and N follow the result. -/
def Obligations.MemoryIncrementAndDecrement : Prop :=
  ∀ (m : Mnemonic) (f : Form) (i : Instr) (s : State),
    m ∈ [.INC, .DEC] → assemble m f = some i → busReady s = true → MachineInv s →
    ∃ v r a cross t, operandOf i s = .ok v ∧
      r = BitVec.ofNat 8 (if m = .INC then v.toNat + 1 else v.toNat + 255) ∧
      addressOf i s = .ok (a, cross) ∧ opcodeAt m (modeOf f) = some (opcodeOf i) ∧ exec i s = .next t ∧
      Ran i s t ∧
      regsAre t s.a s.x s.y s.sp ∧
      t.flag .Z = (r == 0) ∧ t.flag .N = bit7 r ∧ sameFlagsBut [.Z, .N, .U] s.p t.p ∧
      t.pc = nextPc i s ∧ t.cycles = baseCyclesOf i ∧ t.fetched = v ∧ t.addrAbs = a ∧
      storedAt s t a r ∧ memoryFrame s t [a]

/-- INX, INY, DEX and DEY (42_arithmetic_logic R200, R201, R203, R204). -/
def Obligations.RegisterIncrementAndDecrement : Prop :=
  ∀ (m : Mnemonic) (i : Instr) (s : State),
    m ∈ [.INX, .INY, .DEX, .DEY] → assemble m .imp = some i →
    ∃ r t, r = BitVec.ofNat 8 (if m = .INX then s.x.toNat + 1 else if m = .DEX then s.x.toNat + 255
        else if m = .INY then s.y.toNat + 1 else s.y.toNat + 255) ∧
      opcodeAt m .IMP = some (opcodeOf i) ∧ exec i s = .next t ∧ Ran i s t ∧
      regsAre t s.a (if m = .INX ∨ m = .DEX then r else s.x)
        (if m = .INY ∨ m = .DEY then r else s.y) s.sp ∧
      t.flag .Z = (r == 0) ∧ t.flag .N = bit7 r ∧ sameFlagsBut [.Z, .N, .U] s.p t.p ∧
      t.pc = s.pc + 1 ∧ t.cycles = 2 ∧ t.fetched = s.a ∧ t.addrAbs = s.addrAbs ∧ sameStores s t

/-! ### Shifts and rotates -/

/-- ASL, LSR, ROL and ROR of the accumulator (43_shift_rotate R220 to R223): A takes the result and no
byte of memory changes. -/
def Obligations.AccumulatorShifts : Prop :=
  ∀ (m : Mnemonic) (i : Instr) (s : State) (r : Nat) (c : Bool),
    m ∈ [.ASL, .LSR, .ROL, .ROR] → assemble m .imp = some i →
    shiftResult m s.a.toNat (s.flag .C).toNat = (r, c) →
    ∃ t, opcodeAt m .IMP = some (opcodeOf i) ∧ exec i s = .next t ∧ Ran i s t ∧
      regsAre t (BitVec.ofNat 8 r) s.x s.y s.sp ∧
      t.flag .C = c ∧ t.flag .Z = decide (r = 0) ∧ t.flag .N = decide (128 ≤ r) ∧
      sameFlagsBut [.C, .Z, .N, .U] s.p t.p ∧
      t.pc = s.pc + 1 ∧ t.cycles = 2 ∧ t.fetched = s.a ∧ t.addrAbs = s.addrAbs ∧ sameStores s t

/-- ASL, LSR, ROL and ROR of a byte of memory, in every memory mode (43_shift_rotate R220 to R223): the byte
at the effective address takes the result and A is unchanged. -/
def Obligations.MemoryShifts : Prop :=
  ∀ (m : Mnemonic) (f : Form) (i : Instr) (s : State),
    m ∈ [.ASL, .LSR, .ROL, .ROR] → f ≠ .imp → assemble m f = some i → busReady s = true → MachineInv s →
    ∃ v r c a cross t, operandOf i s = .ok v ∧
      shiftResult m v.toNat (s.flag .C).toNat = (r, c) ∧
      addressOf i s = .ok (a, cross) ∧ opcodeAt m (modeOf f) = some (opcodeOf i) ∧ exec i s = .next t ∧
      Ran i s t ∧
      regsAre t s.a s.x s.y s.sp ∧
      t.flag .C = c ∧ t.flag .Z = decide (r = 0) ∧ t.flag .N = decide (128 ≤ r) ∧
      sameFlagsBut [.C, .Z, .N, .U] s.p t.p ∧
      t.pc = nextPc i s ∧ t.cycles = baseCyclesOf i ∧ t.fetched = v ∧ t.addrAbs = a ∧
      storedAt s t a (BitVec.ofNat 8 r) ∧ memoryFrame s t [a]

/-! ### Control flow -/

/-- The eight branches (44_control_flow R230 to R238): taken exactly on their condition, to the address
after the branch plus the signed offset, modulo 2^16; 2 cycles not taken, 3 taken, 4 taken to another page
than the next instruction's. -/
def Obligations.BranchesGoOnTheirCondition : Prop :=
  ∀ (m : Mnemonic) (rr : Byte) (i : Instr) (s : State) (target : Word),
    assemble m (.rel rr) = some i → target = BitVec.ofInt 16 (s.pc.toNat + 2 + rr.toInt) →
    ∃ t, opcodeAt m .REL = some (opcodeOf i) ∧ exec i s = .next t ∧ Ran i s t ∧
      regsAre t s.a s.x s.y s.sp ∧ sameFlagsBut [.U] s.p t.p ∧
      t.pc = (if branchCondition m s then target else s.pc + 2) ∧
      t.cycles = (if branchCondition m s then
        (if target.toNat / 256 = (s.pc + 2).toNat / 256 then 3 else 4) else 2) ∧
      t.addrAbs = (if branchCondition m s then target else s.addrAbs) ∧
      t.fetched = s.fetched ∧ sameStores s t

/-- JMP in both modes (44_control_flow R239): PC takes the effective address; nothing else changes. -/
def Obligations.JumpTakesTheAddress : Prop :=
  ∀ (f : Form) (i : Instr) (s : State), assemble .JMP f = some i → busReady s = true →
    ∃ a t, addressOf i s = .ok (a, false) ∧ opcodeAt .JMP (modeOf f) = some (opcodeOf i) ∧
      exec i s = .next t ∧ Ran i s t ∧
      regsAre t s.a s.x s.y s.sp ∧ sameFlagsBut [.U] s.p t.p ∧ t.pc = a ∧
      t.cycles = baseCyclesOf i ∧ t.fetched = s.fetched ∧ t.addrAbs = a ∧ sameStores s t

/-- JSR (44_control_flow R240): the address of its third byte is pushed, high byte first, and PC takes the
operand. -/
def Obligations.CallPushesTheReturnAddress : Prop :=
  ∀ (w : Word) (s : State), busReady s = true → MachineInv s →
    ∃ t, exec (.jsrAbs w) s = .next t ∧ Ran (.jsrAbs w) s t ∧ t.opcode = 0x20 ∧
      regsAre t s.a s.x s.y (s.sp - 2) ∧ sameFlagsBut [.U] s.p t.p ∧ t.pc = w ∧ t.cycles = 6 ∧
      t.fetched = s.fetched ∧ t.addrAbs = w ∧
      busRead t (stackAddr s.sp) true = .ok (hiByte (s.pc + 2)) ∧
      busRead t (stackAddr (s.sp - 1)) true = .ok (loByte (s.pc + 2)) ∧
      memoryFrame s t [stackAddr s.sp, stackAddr (s.sp - 1)]

/-- RTS (44_control_flow R241): the word above the stack pointer, low byte first, plus one. -/
def Obligations.ReturnPullsTheAddress : Prop :=
  ∀ s : State, busReady s = true →
    ∃ lo hi t, busRead s (stackAddr (s.sp + 1)) true = .ok lo ∧
      busRead s (stackAddr (s.sp + 2)) true = .ok hi ∧
      exec .rtsImp s = .next t ∧ Ran .rtsImp s t ∧ t.opcode = 0x60 ∧
      regsAre t s.a s.x s.y (s.sp + 2) ∧ sameFlagsBut [.U] s.p t.p ∧
      t.pc = BitVec.ofNat 16 (hi.toNat * 256 + lo.toNat + 1) ∧ t.cycles = 6 ∧
      t.fetched = s.a ∧ t.addrAbs = s.addrAbs ∧ sameStores s t

/-! ### Stack, flags, system -/

/-- PHA and PHP (45_stack_flags_system R250, R251): PHA pushes A; PHP pushes P with B and U set and then
clears the live B. -/
def Obligations.PushesStoreOneByte : Prop :=
  ∀ (m : Mnemonic) (i : Instr) (s : State), m ∈ [.PHA, .PHP] → assemble m .imp = some i →
    busReady s = true → MachineInv s →
    ∃ t, opcodeAt m .IMP = some (opcodeOf i) ∧ exec i s = .next t ∧ Ran i s t ∧
      regsAre t s.a s.x s.y (s.sp - 1) ∧
      t.flag .B = (if m = .PHP then false else s.flag .B) ∧ sameFlagsBut [.B, .U] s.p t.p ∧
      t.pc = s.pc + 1 ∧ t.cycles = 3 ∧ t.fetched = s.a ∧ t.addrAbs = s.addrAbs ∧
      busRead t (stackAddr s.sp) true = .ok (if m = .PHA then s.a else s.p ||| 0x30) ∧
      memoryFrame s t [stackAddr s.sp]

/-- PLA and PLP (45_stack_flags_system R252, R253): the byte above the stack pointer is pulled; PLA puts it
into A, and Z and N follow it; PLP puts it into P with bit 5 forced to 1. -/
def Obligations.PullsLoadOneByte : Prop :=
  ∀ (m : Mnemonic) (i : Instr) (s : State), m ∈ [.PLA, .PLP] → assemble m .imp = some i →
    busReady s = true →
    ∃ v t, busRead s (stackAddr (s.sp + 1)) true = .ok v ∧ opcodeAt m .IMP = some (opcodeOf i) ∧
      exec i s = .next t ∧ Ran i s t ∧
      regsAre t (if m = .PLA then v else s.a) s.x s.y (s.sp + 1) ∧
      (m = .PLA → t.flag .Z = (v == 0) ∧ t.flag .N = bit7 v ∧ sameFlagsBut [.Z, .N, .U] s.p t.p) ∧
      (m = .PLP → t.p = v ||| 0x20) ∧
      t.pc = s.pc + 1 ∧ t.cycles = 4 ∧ t.fetched = s.a ∧ t.addrAbs = s.addrAbs ∧ sameStores s t

/-- CLC, CLD, CLI, CLV, SEC, SED and SEI (45_stack_flags_system R254 to R260): each writes its one flag and
nothing else. -/
def Obligations.FlagInstructionsWriteOneFlag : Prop :=
  ∀ (m : Mnemonic) (i : Instr) (s : State) (fl : Flag) (v : Bool),
    flagWritten m = some (fl, v) → assemble m .imp = some i →
    ∃ t, opcodeAt m .IMP = some (opcodeOf i) ∧ exec i s = .next t ∧ Ran i s t ∧ regsAre t s.a s.x s.y s.sp ∧
      t.flag fl = v ∧ sameFlagsBut [fl, .U] s.p t.p ∧
      t.pc = s.pc + 1 ∧ t.cycles = 2 ∧ t.fetched = s.a ∧ t.addrAbs = s.addrAbs ∧ sameStores s t

/-- NOP (45_stack_flags_system R263): nothing but PC and the cycle count, beside the fetch tick's own
scratch. -/
def Obligations.NopOnlyAdvances : Prop :=
  ∀ s : State, ∃ t, exec .nopImp s = .next t ∧ Ran .nopImp s t ∧ t.opcode = 0xEA ∧
    regsAre t s.a s.x s.y s.sp ∧
    sameFlagsBut [.U] s.p t.p ∧ t.pc = s.pc + 1 ∧ t.cycles = 2 ∧ t.fetched = s.a ∧
    t.addrAbs = s.addrAbs ∧ sameStores s t

/-- BRK (45_stack_flags_system R261): whatever I holds, the BRK's address plus BRK_RETURN_OFFSET and then P
with B and U set are pushed, live B is cleared and I set, and PC takes the word at 0xFFFE. -/
def Obligations.BrkEntersTheHandler : Prop :=
  ∀ (s : State) (ret : Word), busReady s = true → MachineInv s → ret = s.pc + s.cfg.brkReturnOffset →
    ∃ lo hi t, busRead s 0xFFFE true = .ok lo ∧ busRead s 0xFFFF true = .ok hi ∧
      exec .brkImp s = .next t ∧ Ran .brkImp s t ∧ t.opcode = 0x00 ∧ regsAre t s.a s.x s.y (s.sp - 3) ∧
      t.flag .B = false ∧ t.flag .I = true ∧ sameFlagsBut [.B, .I, .U] s.p t.p ∧
      t.pc = BitVec.ofNat 16 (hi.toNat * 256 + lo.toNat) ∧ t.cycles = 7 ∧
      t.fetched = s.a ∧ t.addrAbs = s.addrAbs ∧
      busRead t (stackAddr s.sp) true = .ok (hiByte ret) ∧
      busRead t (stackAddr (s.sp - 1)) true = .ok (loByte ret) ∧
      busRead t (stackAddr (s.sp - 2)) true = .ok (s.p ||| 0x30) ∧
      memoryFrame s t [stackAddr s.sp, stackAddr (s.sp - 1), stackAddr (s.sp - 2)]

/-- RTI (45_stack_flags_system R262): the status byte with B cleared and U set, then PC, low byte first, with
no adjustment. -/
def Obligations.RtiRestoresStatusAndPc : Prop :=
  ∀ s : State, busReady s = true →
    ∃ v lo hi t, busRead s (stackAddr (s.sp + 1)) true = .ok v ∧
      busRead s (stackAddr (s.sp + 2)) true = .ok lo ∧
      busRead s (stackAddr (s.sp + 3)) true = .ok hi ∧
      exec .rtiImp s = .next t ∧ Ran .rtiImp s t ∧ t.opcode = 0x40 ∧ regsAre t s.a s.x s.y (s.sp + 3) ∧
      t.p = (v &&& 0xEF) ||| 0x20 ∧ t.pc = BitVec.ofNat 16 (hi.toNat * 256 + lo.toNat) ∧
      t.cycles = 6 ∧ t.fetched = s.a ∧ t.addrAbs = s.addrAbs ∧ sameStores s t

/-- The 105 illegal opcodes under the default ILLEGAL_TABLE (30_encoding R115, R116;
45_stack_flags_system R264 to R266): one byte, the base count of their entry, and no state change beside PC
and the fetch tick's own scratch. -/
def Obligations.IllegalOpcodesAreOneByteNoOps : Prop :=
  ∀ (i : Instr) (s : State), documented i = false → s.cfg.illegalOverrides = [] →
    ∃ t, exec i s = .next t ∧ Ran i s t ∧ regsAre t s.a s.x s.y s.sp ∧ sameFlagsBut [.U] s.p t.p ∧
      t.pc = s.pc + 1 ∧ t.cycles = baseCyclesOf i ∧ t.fetched = s.a ∧ t.addrAbs = s.addrAbs ∧
      sameStores s t

/-- Whatever ILLEGAL_TABLE holds, an illegal opcode completes and changes no register but PC, no flag, no
byte of memory and no device; and a replaced entry moves PC past the bytes its mode takes and costs its own
base count, and one more when its mode's index crosses a page (30_encoding R115, D4; 40_execution R156 and
90_conflicts C9; the form of the replaced entries is log 7). -/
def Obligations.IllegalOpcodesNeverChangeDataWhateverTheTable : Prop :=
  ∀ (i : Instr) (s : State), documented i = false → busReady s = true →
    ∃ t, exec i s = .next t ∧ t.opcode = opcodeOf i ∧ t.isCompleteCycle = true ∧ t.flag .U = true ∧
      regsAre t s.a s.x s.y s.sp ∧ sameFlagsBut [.U] s.p t.p ∧ sameStores s t ∧ sameDevices s t ∧
      ∀ e, replacedEntry s.cfg (opcodeOf i) = some e →
        ∃ f a cross, fetchForm e.mode (afterOpcode (opcodeOf i) s) = .ok f ∧ modeOf f = e.mode ∧
          effectiveAddress f (afterOpcode (opcodeOf i) s) = .ok (a, cross) ∧ t.addrAbs = a ∧
          t.pc = s.pc + 1 + BitVec.ofNat 16 (operandCount e.mode) ∧
          t.cycles = e.baseCycles + cross.toNat

/-! ### Interrupts and reset -/

/-- An accepted IRQ (60_exceptions R281): PC, high byte first, and P with B clear and U set are pushed, I is
set, PC takes the word at 0xFFFE, and 7 cycles replace whatever was pending. While I is set the request
changes nothing and is not remembered. -/
def Obligations.IrqEntersTheHandlerUnlessMasked : Prop :=
  (∀ s : State, s.flag .I = true → perform .irq s = .next s) ∧
  ∀ s : State, s.flag .I = false → busReady s = true → MachineInv s →
    ∃ lo hi t, busRead s 0xFFFE true = .ok lo ∧ busRead s 0xFFFF true = .ok hi ∧
      perform .irq s = .next t ∧ regsAre t s.a s.x s.y (s.sp - 3) ∧
      t.flag .B = false ∧ t.flag .U = true ∧ t.flag .I = true ∧ sameFlagsBut [.B, .U, .I] s.p t.p ∧
      t.pc = BitVec.ofNat 16 (hi.toNat * 256 + lo.toNat) ∧ t.cycles = 7 ∧
      t.isCompleteCycle = s.isCompleteCycle ∧ t.opcode = s.opcode ∧ t.fetched = s.fetched ∧
      t.addrAbs = 0xFFFE ∧ t.addrRel = s.addrRel ∧ sameDevices s t ∧
      busRead t (stackAddr s.sp) true = .ok (hiByte s.pc) ∧
      busRead t (stackAddr (s.sp - 1)) true = .ok (loByte s.pc) ∧
      busRead t (stackAddr (s.sp - 2)) true = .ok ((s.p &&& 0xEF) ||| 0x20) ∧
      memoryFrame s t [stackAddr s.sp, stackAddr (s.sp - 1), stackAddr (s.sp - 2)]

/-- An NMI (60_exceptions R282): the same entry whatever I holds, through 0xFFFA, for 8 cycles. -/
def Obligations.NmiEntersTheHandler : Prop :=
  ∀ s : State, busReady s = true → MachineInv s →
    ∃ lo hi t, busRead s 0xFFFA true = .ok lo ∧ busRead s 0xFFFB true = .ok hi ∧
      perform .nmi s = .next t ∧ regsAre t s.a s.x s.y (s.sp - 3) ∧
      t.flag .B = false ∧ t.flag .U = true ∧ t.flag .I = true ∧ sameFlagsBut [.B, .U, .I] s.p t.p ∧
      t.pc = BitVec.ofNat 16 (hi.toNat * 256 + lo.toNat) ∧ t.cycles = 8 ∧
      t.isCompleteCycle = s.isCompleteCycle ∧ t.opcode = s.opcode ∧ t.fetched = s.fetched ∧
      t.addrAbs = 0xFFFA ∧ t.addrRel = s.addrRel ∧ sameDevices s t ∧
      busRead t (stackAddr s.sp) true = .ok (hiByte s.pc) ∧
      busRead t (stackAddr (s.sp - 1)) true = .ok (loByte s.pc) ∧
      busRead t (stackAddr (s.sp - 2)) true = .ok ((s.p &&& 0xEF) ||| 0x20) ∧
      memoryFrame s t [stackAddr s.sp, stackAddr (s.sp - 1), stackAddr (s.sp - 2)]

/-- RTI after an accepted IRQ or an NMI resumes at the interrupted instruction boundary, with the status the
interrupted code had but B cleared and U set (60_exceptions R286). -/
def Obligations.RtiUndoesInterruptEntry : Prop :=
  ∀ (act : HostAction) (s t : State), act = .irq ∧ s.flag .I = false ∨ act = .nmi → busReady s = true →
    MachineInv s → perform act s = .next t →
    ∃ u, exec .rtiImp t = .next u ∧ u.pc = s.pc ∧ u.p = (s.p &&& 0xEF) ||| 0x20 ∧
      regsAre u s.a s.x s.y s.sp

/-- CpuReset (70_reset_and_hazards R320, R323, R324): A, X and Y 0, SP 0xFD, P 0x20, PC the word at 0xFFFC,
scratch 0, 8 cycles; the opcode register, the completed flag, every memory and every device keep theirs.
BusReset (R321) is that with the bus counter zeroed. -/
def Obligations.ResetsSetTheRegisters : Prop :=
  ∀ s : State, busReady s = true →
    ∃ lo hi t, busRead s 0xFFFC true = .ok lo ∧ busRead s 0xFFFD true = .ok hi ∧
      perform .cpuReset s = .next t ∧ regsAre t 0 0 0 0xFD ∧ t.p = 0x20 ∧
      t.pc = BitVec.ofNat 16 (hi.toNat * 256 + lo.toNat) ∧ t.cycles = 8 ∧ t.addrAbs = 0 ∧
      t.addrRel = 0 ∧ t.fetched = 0 ∧ t.opcode = s.opcode ∧ t.isCompleteCycle = s.isCompleteCycle ∧
      sameStores s t ∧ sameDevices s t ∧ perform .busReset s = .next { t with busClockCounter := 0 }

/-- The model's State.reset is what BusReset makes of a power-on with the default parameters, whatever the
registers held, but for the opcode register, which no reset writes and which is the model's choice
(70_reset_and_hazards R320 to R322; log 2, log 4). -/
def Obligations.StateResetIsPowerOnThenBusReset : Prop :=
  ∀ u : PowerOnRegisters,
    perform .busReset (State.powerOn {} u) = .next { State.reset with opcode := u.opcode }

/-! ### Clocks -/

/-- PpuClock (60_exceptions R291): the dot counts to 340, the scanline from -1 to 260, and the frame signal is
raised by the wrap and by nothing else; no other state changes. -/
def Obligations.PpuClockCountsDotsAndLines : Prop :=
  ∀ s t : State, perform .ppuClock s = .next t →
    t.ppuCycle = (if s.ppuCycle < 340 then s.ppuCycle + 1 else 0) ∧
    t.ppuScanline = (if s.ppuCycle < 340 then s.ppuScanline
      else if s.ppuScanline < 260 then s.ppuScanline + 1 else -1) ∧
    t.frameComplete = (s.frameComplete || decide (340 ≤ s.ppuCycle ∧ 260 ≤ s.ppuScanline)) ∧
    { t with ppuCycle := s.ppuCycle, ppuScanline := s.ppuScanline,
             frameComplete := s.frameComplete } = s

/-- A frame is 341 x 262 picture-unit ticks: from any dot of any line, that many ticks come back to it with
the frame signal raised, and everything else as it was (60_exceptions R291). -/
def Obligations.FrameIsEightyNineThousandTicks : Prop :=
  ∀ s : State, s.ppuCycle ≤ 340 → -1 ≤ s.ppuScanline → s.ppuScanline ≤ 260 →
    ppuClocks (341 * 262) s = { s with frameComplete := true }

/-- Three BusClock calls from a counter that is a multiple of three tick the CPU once, in the first call
after the picture unit, and the picture unit three times (60_exceptions R289). -/
def Obligations.ThreeBusClocksTickTheCpuOnce : Prop :=
  ∀ s : State, s.busClockCounter % 3 = 0 →
    busClocks 3 s = match cpuClock (ppuClock s) with
      | .next t => .next { ppuClocks 2 t with busClockCounter := s.busClockCounter + 3 }
      | .fault f => .fault f
      | .refused r => .refused r

/-! ### The bus, the stack and the cartridge -/

/-- The address map (20_memory R63 to R65, R68, R78): with no cartridge or one of mapper 0, the RAM byte of
the low 11 bits below 0x2000, so that a, a ^ 0x0800, a ^ 0x1000 and a ^ 0x1800 name one byte; the
picture-unit registers every 8 addresses from 0x2000 to 0x3FFF; nothing, which reads 0, from 0x4000 to
0x7FFF; and above it program memory through mapper 0's mask, or nothing when the slot is empty. -/
def Obligations.AddressMapIsDecoded : Prop :=
  ∀ (s : State) (a : Word), busReady s = true →
    busDecode s a = .ok (if a.toNat < 0x2000 then .ram (a.toNat % 2048)
      else if a.toNat < 0x4000 then .ppuReg (a.toNat % 8)
      else if a.toNat < 0x8000 then .unmapped
      else match s.cart with
        | none => .unmapped
        | some c => .prg (if c.header.prgBanks.toNat ≤ 1 then a.toNat % 16384 else a.toNat % 32768)) ∧
    (∀ m : Word, a.toNat < 0x2000 → m ∈ [0x0800, 0x1000, 0x1800] →
      busDecode s (a ^^^ m) = busDecode s a) ∧
    readTarget s .unmapped = 0

/-- With an unsupported cartridge in the slot every access raises MapperUnavailable with its address, RAM
addresses too, and so does every fetch (20_memory R71). -/
def Obligations.UnsupportedCartridgeFaultsEveryAccess : Prop :=
  ∀ (s : State) (a : Word) (v : Byte) (ro : Bool), busReady s = false →
    perform (.busRead a ro) s = .fault (.mapperUnavailable a) ∧
    perform (.busWrite a v) s = .fault (.mapperUnavailable a) ∧
    perform (.ppuRead a ro) s = .fault (.mapperUnavailable (a &&& s.cfg.ppuBusMask)) ∧
    perform (.ppuWrite a v) s = .fault (.mapperUnavailable (a &&& s.cfg.ppuBusMask)) ∧
    (s.cycles = 0 → perform .cpuClock s = .fault (.mapperUnavailable s.pc))

/-- A bus write changes exactly the byte it names: a read of any address that decodes to the same cell then
gives the byte written, but at unmapped addresses (0x00) and in unwritable program memory, and every other
byte is as before; and so is every register, scratch register, counter and device; and a read changes nothing at all (20_memory
R77, R82). -/
def Obligations.BusWriteChangesOneByte : Prop :=
  ∀ (s : State) (a : Word) (v : Byte), busReady s = true → MachineInv s →
    ∃ t, perform (.busWrite a v) s = .next t ∧ storedAt s t a v ∧ memoryFrame s t [a] ∧
      sameDevices s t ∧ ({ t with ram := s.ram, ppuReg := s.ppuReg, cart := s.cart } : State) = s ∧
      ∀ ro, perform (.busRead a ro) s = .next s

/-- Pushing up to 256 bytes and pulling as many gives them back in reverse, with the stack pointer at its
original value (20_memory R79). -/
def Obligations.StackGivesBackWhatWasPushed : Prop :=
  ∀ (s : State) (vs : List Byte), busReady s = true → MachineInv s → vs.length ≤ 256 →
    ∃ t u, pushAll s vs = .ok t ∧ pullAll t vs.length = .ok (u, vs.reverse) ∧ u.sp = s.sp

/-- The picture unit's side of the bus (20_memory R69, R70, R72): after the mask, 0x0000 to 0x1FFF reads the
character memory and every other address 0x00; a write is kept only there and only in character RAM, and
changes nothing else. With an empty slot every read is 0x00 and every write is dropped. -/
def Obligations.PictureUnitBusReachesCharacterMemory : Prop :=
  ∀ (s : State) (a b : Word) (v : Byte), busReady s = true → MachineInv s →
    ∃ t, perform (.ppuWrite a v) s = .next t ∧
      ppuRead s b true = .ok (match s.cart with
        | none => 0
        | some c => if (b &&& s.cfg.ppuBusMask).toNat ≤ 0x1FFF
          then c.chr.read (b &&& s.cfg.ppuBusMask).toNat else 0) ∧
      ppuRead t b true = (if a &&& s.cfg.ppuBusMask = b &&& s.cfg.ppuBusMask ∧
        (a &&& s.cfg.ppuBusMask).toNat ≤ 0x1FFF ∧ s.cart.map (·.header.chrBanks) = some 0
        then .ok v else ppuRead s b true) ∧
      (∀ ro, perform (.ppuRead b ro) s = .next s) ∧
      memoryFrame s t [] ∧ t.cart.map (·.header) = s.cart.map (·.header) ∧
      ({ t with cart := s.cart } : State) = s

/-- LoadCartridge (20_memory R84 to R88): it succeeds exactly when the file holds a header with a program bank
and all the banks the header declares, and the cartridge then holds the header's fields and the images from
their places in the file. -/
def Obligations.LoadedCartridgeHoldsTheFile : Prop :=
  ∀ bytes : List Byte,
    let at' := fun k => bytes.getD k 0
    let base := if (at' 6).getLsbD 2 then 528 else 16
    let prg := (at' 4).toNat * 16384
    let chr := (at' 5).toNat * 8192
    ((∃ c, loadCartridge bytes = .ok c) ↔
      16 ≤ bytes.length ∧ at' 4 ≠ 0 ∧ base + prg + chr ≤ bytes.length) ∧
    ∀ c, loadCartridge bytes = .ok c →
      c.wf = true ∧
      c.header = { name := (at' 0, at' 1, at' 2), prgBanks := at' 4, chrBanks := at' 5,
                   mapperOne := at' 6, mapperTwo := at' 7, prgRamSize := at' 8,
                   tvSystem := (at' 9, at' 10) } ∧
      c.header.mapperId.toNat = (at' 7).toNat / 16 * 16 + (at' 6).toNat / 16 ∧
      c.header.mapper = (if c.header.mapperId = 0 then some .mapper0 else none) ∧
      (∀ k, k < prg → c.prg.read k = at' (base + k)) ∧
      (∀ k, k < chr → c.chr.read k = at' (base + prg + k)) ∧
      ∀ k, chr ≤ k → c.chr.read k = 0

/-! ### Invariants and whole-machine rules -/

/-- Every step keeps the invariant, whatever the host does in it: the Unused bit is 1, every store is
canonical and within its length, the cartridge is whole, the picture timing unit is in its ranges (10_state
R31, R38, R42, R43, R45, R46); and no step writes a parameter of the machine (00_scope R5). What a step is,
one host action, is the model's choice (log 3). -/
def Obligations.StepKeepsTheInvariant : Prop :=
  ∀ s t : State, MachineInv s → step s = .next t → MachineInv t ∧ t.cfg = s.cfg

/-- The invariant holds at State.reset, whose opcode register and empty script are the model's choices
(log 2, log 3, log 4). -/
def Obligations.ResetMeetsTheInvariant : Prop := MachineInv State.reset

/-- Power-on with parameters in their ranges, whatever the registers held, and then a reset meets the
invariant (70_reset_and_hazards R320, R322). -/
def Obligations.PowerOnThenResetMeetsTheInvariant : Prop :=
  ∀ (c : Config) (u : PowerOnRegisters), ConfigOk c →
    ∃ t, perform .busReset (State.powerOn c u) = .next t ∧ MachineInv t ∧ t.cfg = c ∧ t.cart = none

/-- The pending-cycle counter never exceeds 8 under the default ILLEGAL_TABLE (10_state R35). -/
def Obligations.StepKeepsTheCycleBound : Prop :=
  ∀ s t : State, cyclesBounded s → step s = .next t → cyclesBounded t

/-- The machine never halts (70_reset_and_hazards R329): while its cartridge and those the host is about to
insert are supported, every step completes, and so does any number of steps (a step: log 3). -/
def Obligations.SupportedMachineNeverStops : Prop :=
  ∀ (s : State) (n : Nat), supported s → ∃ t, Sys2Proof.core.run n s = .next t ∧ supported t

/-- No instruction, no IRQ and no NMI reads the live Break bit (10_state R30): with another B, each of them
does the same to everything but B. -/
def Obligations.NothingReadsTheLiveBreakBit : Prop :=
  (∀ (i : Instr) (s t : State) (b : Bool), exec i s = .next t →
    ∃ u, exec i (s.setFlag .B b) = .next u ∧ u.setFlag .B false = t.setFlag .B false) ∧
  ∀ (act : HostAction) (s t : State) (b : Bool), act ∈ [.irq, .nmi] → perform act s = .next t →
    ∃ u, perform act (s.setFlag .B b) = .next u ∧ u.setFlag .B false = t.setFlag .B false

/-- The Decimal flag changes no sum or difference (10_state R29, 42_arithmetic_logic R190, R191): with another
D, ADC and SBC leave the same machine but for D itself. -/
def Obligations.DecimalFlagIsIgnored : Prop :=
  ∀ (m : Mnemonic) (f : Form) (i : Instr) (s t : State) (d : Bool),
    m ∈ [.ADC, .SBC] → assemble m f = some i → exec i s = .next t →
    exec i (s.setFlag .D d) = .next (t.setFlag .D d)
end

