-- ==== Sys2Proof/Laws/Memory.lean ====
section
/-! SUPPORT. The laws of a backing store: reading after writing, and that every operation keeps the
canonical form and the length. -/

namespace Sys2Proof

@[simp] theorem Memory.read_nil (k : Nat) : Memory.read [] k = 0 := rfl

@[simp] theorem Memory.read_cons (j : Nat) (v : Byte) (rest : Memory) (k : Nat) :
    Memory.read ((j, v) :: rest) k = if j = k then v else Memory.read rest k := rfl

theorem Memory.read_cell_append (k : Nat) (v : Byte) (rest : Memory) (j : Nat) :
    Memory.read (Memory.cell k v ++ rest) j = if k = j ∧ v ≠ 0 then v else Memory.read rest j := by
  unfold Memory.cell
  split <;> simp_all

/-- A store whose offsets all start above `k` reads 0x00 at `k`. -/
theorem Memory.read_below {m : Memory} {lo k : Nat} (h : Memory.canonicalFrom lo m = true) (hk : k < lo) :
    Memory.read m k = 0 := by
  induction m generalizing lo with
  | nil => rfl
  | cons c rest ih =>
    obtain ⟨j, v⟩ := c
    simp only [Memory.canonicalFrom, Bool.and_eq_true, decide_eq_true_eq] at h
    rw [Memory.read_cons, if_neg (by omega), ih h.2 (by omega)]

theorem Memory.canonicalFrom_mono {m : Memory} {lo lo' : Nat} (h : Memory.canonicalFrom lo m = true)
    (hle : lo' ≤ lo) : Memory.canonicalFrom lo' m = true := by
  cases m with
  | nil => rfl
  | cons c rest =>
    obtain ⟨j, v⟩ := c
    simp only [Memory.canonicalFrom, Bool.and_eq_true, decide_eq_true_eq] at h ⊢
    exact ⟨⟨by omega, h.1.2⟩, h.2⟩

theorem Memory.canonicalFrom_cell_append {k lo : Nat} {v : Byte} {rest : Memory} (hk : lo ≤ k)
    (h : Memory.canonicalFrom (k + 1) rest = true) :
    Memory.canonicalFrom lo (Memory.cell k v ++ rest) = true := by
  unfold Memory.cell
  split
  · exact Memory.canonicalFrom_mono h (by omega)
  · simp_all [Memory.canonicalFrom]

/-- A write keeps the canonical form. -/
theorem Memory.canonicalFrom_write {m : Memory} {lo k : Nat} {v : Byte}
    (h : Memory.canonicalFrom lo m = true) (hk : lo ≤ k) :
    Memory.canonicalFrom lo (Memory.write m k v) = true := by
  induction m generalizing lo with
  | nil => simpa [Memory.write] using Memory.canonicalFrom_cell_append (v := v) (rest := []) hk rfl
  | cons c rest ih =>
    obtain ⟨j, u⟩ := c
    simp only [Memory.canonicalFrom, Bool.and_eq_true, decide_eq_true_eq] at h
    unfold Memory.write
    split
    · refine Memory.canonicalFrom_cell_append hk ?_
      simp only [Memory.canonicalFrom, Bool.and_eq_true, decide_eq_true_eq]
      exact ⟨⟨by omega, h.1.2⟩, h.2⟩
    · split
      · exact Memory.canonicalFrom_cell_append hk (by simpa [‹j = k›] using h.2)
      · simp only [Memory.canonicalFrom, Bool.and_eq_true, decide_eq_true_eq]
        exact ⟨⟨by omega, h.1.2⟩, ih h.2 (by omega)⟩

theorem Memory.wf_write {m : Memory} (h : m.wf = true) (k : Nat) (v : Byte) :
    (m.write k v).wf = true :=
  Memory.canonicalFrom_write h (by omega)

/-- Reading the offset just written gives the byte written. -/
theorem Memory.read_write_same {m : Memory} (h : m.wf = true) (k : Nat) (v : Byte) :
    (m.write k v).read k = v := by
  suffices ∀ lo, Memory.canonicalFrom lo m = true → (m.write k v).read k = v from this 0 h
  clear h
  induction m with
  | nil => intro lo _; simp [Memory.write, Memory.cell]; split <;> simp_all
  | cons c rest ih =>
    obtain ⟨j, u⟩ := c
    intro lo h
    have h2 := h
    simp only [Memory.canonicalFrom, Bool.and_eq_true, decide_eq_true_eq] at h2
    unfold Memory.write
    split
    · rw [Memory.read_cell_append]
      by_cases hv : v = 0
      · rw [if_neg (by simp [hv]), Memory.read_cons, if_neg (by omega),
          Memory.read_below h2.2 (by omega), hv]
      · rw [if_pos ⟨rfl, hv⟩]
    · split
      · rw [Memory.read_cell_append]
        by_cases hv : v = 0
        · rw [if_neg (by simp [hv]), Memory.read_below h2.2 (by omega), hv]
        · rw [if_pos ⟨rfl, hv⟩]
      · rw [Memory.read_cons, if_neg ‹_›, ih _ h2.2]

/-- A write leaves every other offset alone. -/
theorem Memory.read_write_other (m : Memory) {k j : Nat} (v : Byte) (h : j ≠ k) :
    (m.write k v).read j = m.read j := by
  induction m with
  | nil => simp [Memory.write, Memory.cell]; split <;> simp_all [Ne.symm h]
  | cons c rest ih =>
    obtain ⟨i, u⟩ := c
    unfold Memory.write
    split
    · rw [Memory.read_cell_append, if_neg (by simp [Ne.symm h])]
    · split
      · subst i; rw [Memory.read_cell_append, if_neg (by simp [Ne.symm h]), Memory.read_cons,
          if_neg (Ne.symm h)]
      · rw [Memory.read_cons, ih, Memory.read_cons]

theorem Memory.within_cell_append {size k : Nat} {v : Byte} {rest : Memory} (hk : k < size)
    (h : Memory.within size rest = true) : Memory.within size (Memory.cell k v ++ rest) = true := by
  unfold Memory.cell
  split
  · exact h
  · simp only [Memory.within, List.cons_append, List.nil_append, List.all_cons, Bool.and_eq_true,
      decide_eq_true_eq] at h ⊢
    exact ⟨hk, h⟩

/-- A write inside a store keeps it inside its length. -/
theorem Memory.within_write {m : Memory} {size k : Nat} (v : Byte) (h : m.within size = true)
    (hk : k < size) : (m.write k v).within size = true := by
  induction m with
  | nil => simpa [Memory.write] using Memory.within_cell_append (v := v) (rest := []) hk rfl
  | cons c rest ih =>
    obtain ⟨j, u⟩ := c
    have h2 : j < size ∧ Memory.within size rest = true := by simpa [Memory.within] using h
    unfold Memory.write
    split
    · exact Memory.within_cell_append hk h
    · split
      · exact Memory.within_cell_append hk h2.2
      · simpa [Memory.within, h2.1] using ih h2.2

theorem Memory.canonicalFrom_ofBytes (bytes : List Byte) (k lo : Nat) (h : lo ≤ k) :
    Memory.canonicalFrom lo (Memory.ofBytes k bytes) = true := by
  induction bytes generalizing k lo with
  | nil => rfl
  | cons v rest ih =>
    exact Memory.canonicalFrom_cell_append h (ih (k + 1) (k + 1) (le_refl _))

theorem Memory.wf_ofBytes (bytes : List Byte) : (Memory.ofBytes 0 bytes).wf = true :=
  Memory.canonicalFrom_ofBytes bytes 0 0 (le_refl _)

theorem Memory.within_ofBytes (bytes : List Byte) (k size : Nat) (h : k + bytes.length ≤ size) :
    (Memory.ofBytes k bytes).within size = true := by
  induction bytes generalizing k with
  | nil => rfl
  | cons v rest ih =>
    simp only [List.length_cons] at h
    exact Memory.within_cell_append (by omega) (ih (k + 1) (by omega))

/-- The store made of a list of bytes reads those bytes. -/
theorem Memory.read_ofBytes (bytes : List Byte) (k j : Nat) :
    (Memory.ofBytes k bytes).read (k + j) = bytes.getD j 0 := by
  induction bytes generalizing k j with
  | nil => rfl
  | cons v rest ih =>
    rw [Memory.ofBytes, Memory.read_cell_append]
    cases j with
    | zero =>
      by_cases hv : v = 0
      · rw [if_neg (by simp [hv]), Nat.add_zero,
          Memory.read_below (Memory.canonicalFrom_ofBytes rest (k + 1) (k + 1) (le_refl _)) (by omega)]
        simp [hv]
      · rw [if_pos ⟨Nat.add_zero k |>.symm, hv⟩]
        rfl
    | succ j =>
      rw [if_neg (by omega), show k + (j + 1) = (k + 1) + j by omega, ih]
      simp

end Sys2Proof
end

