-- ==== Sys2Proof/Laws/State.lean ====
section
/-! SUPPORT. One lemma for each field of each update of the state, so that no proof unfolds an update, and
what each update does to the flags. -/

namespace Sys2Proof.Machine

@[simp] theorem State.setFlag_a (s : State) (f : Flag) (v : Bool) : (s.setFlag f v).a = s.a := rfl
@[simp] theorem State.setFlag_x (s : State) (f : Flag) (v : Bool) : (s.setFlag f v).x = s.x := rfl
@[simp] theorem State.setFlag_y (s : State) (f : Flag) (v : Bool) : (s.setFlag f v).y = s.y := rfl
@[simp] theorem State.setFlag_sp (s : State) (f : Flag) (v : Bool) : (s.setFlag f v).sp = s.sp := rfl
@[simp] theorem State.setFlag_pc (s : State) (f : Flag) (v : Bool) : (s.setFlag f v).pc = s.pc := rfl
@[simp] theorem State.setFlag_p (s : State) (f : Flag) (v : Bool) : (s.setFlag f v).p = Machine.setFlag s.p f v := rfl
@[simp] theorem State.setFlag_cycles (s : State) (f : Flag) (v : Bool) : (s.setFlag f v).cycles = s.cycles := rfl
@[simp] theorem State.setFlag_isCompleteCycle (s : State) (f : Flag) (v : Bool) : (s.setFlag f v).isCompleteCycle = s.isCompleteCycle := rfl
@[simp] theorem State.setFlag_opcode (s : State) (f : Flag) (v : Bool) : (s.setFlag f v).opcode = s.opcode := rfl
@[simp] theorem State.setFlag_fetched (s : State) (f : Flag) (v : Bool) : (s.setFlag f v).fetched = s.fetched := rfl
@[simp] theorem State.setFlag_addrAbs (s : State) (f : Flag) (v : Bool) : (s.setFlag f v).addrAbs = s.addrAbs := rfl
@[simp] theorem State.setFlag_addrRel (s : State) (f : Flag) (v : Bool) : (s.setFlag f v).addrRel = s.addrRel := rfl
@[simp] theorem State.setFlag_ram (s : State) (f : Flag) (v : Bool) : (s.setFlag f v).ram = s.ram := rfl
@[simp] theorem State.setFlag_busClockCounter (s : State) (f : Flag) (v : Bool) : (s.setFlag f v).busClockCounter = s.busClockCounter := rfl
@[simp] theorem State.setFlag_cart (s : State) (f : Flag) (v : Bool) : (s.setFlag f v).cart = s.cart := rfl
@[simp] theorem State.setFlag_ppuReg (s : State) (f : Flag) (v : Bool) : (s.setFlag f v).ppuReg = s.ppuReg := rfl
@[simp] theorem State.setFlag_ppuCycle (s : State) (f : Flag) (v : Bool) : (s.setFlag f v).ppuCycle = s.ppuCycle := rfl
@[simp] theorem State.setFlag_ppuScanline (s : State) (f : Flag) (v : Bool) : (s.setFlag f v).ppuScanline = s.ppuScanline := rfl
@[simp] theorem State.setFlag_frameComplete (s : State) (f : Flag) (v : Bool) : (s.setFlag f v).frameComplete = s.frameComplete := rfl
@[simp] theorem State.setFlag_cfg (s : State) (f : Flag) (v : Bool) : (s.setFlag f v).cfg = s.cfg := rfl
@[simp] theorem State.setFlag_script (s : State) (f : Flag) (v : Bool) : (s.setFlag f v).script = s.script := rfl

@[simp] theorem State.setZN_a (s : State) (v : Byte) : (s.setZN v).a = s.a := rfl
@[simp] theorem State.setZN_x (s : State) (v : Byte) : (s.setZN v).x = s.x := rfl
@[simp] theorem State.setZN_y (s : State) (v : Byte) : (s.setZN v).y = s.y := rfl
@[simp] theorem State.setZN_sp (s : State) (v : Byte) : (s.setZN v).sp = s.sp := rfl
@[simp] theorem State.setZN_pc (s : State) (v : Byte) : (s.setZN v).pc = s.pc := rfl
@[simp] theorem State.setZN_p (s : State) (v : Byte) : (s.setZN v).p = Machine.setFlag (Machine.setFlag s.p .Z (v == 0)) .N (bit7 v) := rfl
@[simp] theorem State.setZN_cycles (s : State) (v : Byte) : (s.setZN v).cycles = s.cycles := rfl
@[simp] theorem State.setZN_isCompleteCycle (s : State) (v : Byte) : (s.setZN v).isCompleteCycle = s.isCompleteCycle := rfl
@[simp] theorem State.setZN_opcode (s : State) (v : Byte) : (s.setZN v).opcode = s.opcode := rfl
@[simp] theorem State.setZN_fetched (s : State) (v : Byte) : (s.setZN v).fetched = s.fetched := rfl
@[simp] theorem State.setZN_addrAbs (s : State) (v : Byte) : (s.setZN v).addrAbs = s.addrAbs := rfl
@[simp] theorem State.setZN_addrRel (s : State) (v : Byte) : (s.setZN v).addrRel = s.addrRel := rfl
@[simp] theorem State.setZN_ram (s : State) (v : Byte) : (s.setZN v).ram = s.ram := rfl
@[simp] theorem State.setZN_busClockCounter (s : State) (v : Byte) : (s.setZN v).busClockCounter = s.busClockCounter := rfl
@[simp] theorem State.setZN_cart (s : State) (v : Byte) : (s.setZN v).cart = s.cart := rfl
@[simp] theorem State.setZN_ppuReg (s : State) (v : Byte) : (s.setZN v).ppuReg = s.ppuReg := rfl
@[simp] theorem State.setZN_ppuCycle (s : State) (v : Byte) : (s.setZN v).ppuCycle = s.ppuCycle := rfl
@[simp] theorem State.setZN_ppuScanline (s : State) (v : Byte) : (s.setZN v).ppuScanline = s.ppuScanline := rfl
@[simp] theorem State.setZN_frameComplete (s : State) (v : Byte) : (s.setZN v).frameComplete = s.frameComplete := rfl
@[simp] theorem State.setZN_cfg (s : State) (v : Byte) : (s.setZN v).cfg = s.cfg := rfl
@[simp] theorem State.setZN_script (s : State) (v : Byte) : (s.setZN v).script = s.script := rfl

@[simp] theorem State.setAlu_a (s : State) (o : AluOut) : (s.setAlu o).a = o.result := rfl
@[simp] theorem State.setAlu_x (s : State) (o : AluOut) : (s.setAlu o).x = s.x := rfl
@[simp] theorem State.setAlu_y (s : State) (o : AluOut) : (s.setAlu o).y = s.y := rfl
@[simp] theorem State.setAlu_sp (s : State) (o : AluOut) : (s.setAlu o).sp = s.sp := rfl
@[simp] theorem State.setAlu_pc (s : State) (o : AluOut) : (s.setAlu o).pc = s.pc := rfl
@[simp] theorem State.setAlu_p (s : State) (o : AluOut) : (s.setAlu o).p = Machine.setFlag (Machine.setFlag (Machine.setFlag (Machine.setFlag s.p .C o.c) .Z o.z) .V o.v) .N o.n := rfl
@[simp] theorem State.setAlu_cycles (s : State) (o : AluOut) : (s.setAlu o).cycles = s.cycles := rfl
@[simp] theorem State.setAlu_isCompleteCycle (s : State) (o : AluOut) : (s.setAlu o).isCompleteCycle = s.isCompleteCycle := rfl
@[simp] theorem State.setAlu_opcode (s : State) (o : AluOut) : (s.setAlu o).opcode = s.opcode := rfl
@[simp] theorem State.setAlu_fetched (s : State) (o : AluOut) : (s.setAlu o).fetched = s.fetched := rfl
@[simp] theorem State.setAlu_addrAbs (s : State) (o : AluOut) : (s.setAlu o).addrAbs = s.addrAbs := rfl
@[simp] theorem State.setAlu_addrRel (s : State) (o : AluOut) : (s.setAlu o).addrRel = s.addrRel := rfl
@[simp] theorem State.setAlu_ram (s : State) (o : AluOut) : (s.setAlu o).ram = s.ram := rfl
@[simp] theorem State.setAlu_busClockCounter (s : State) (o : AluOut) : (s.setAlu o).busClockCounter = s.busClockCounter := rfl
@[simp] theorem State.setAlu_cart (s : State) (o : AluOut) : (s.setAlu o).cart = s.cart := rfl
@[simp] theorem State.setAlu_ppuReg (s : State) (o : AluOut) : (s.setAlu o).ppuReg = s.ppuReg := rfl
@[simp] theorem State.setAlu_ppuCycle (s : State) (o : AluOut) : (s.setAlu o).ppuCycle = s.ppuCycle := rfl
@[simp] theorem State.setAlu_ppuScanline (s : State) (o : AluOut) : (s.setAlu o).ppuScanline = s.ppuScanline := rfl
@[simp] theorem State.setAlu_frameComplete (s : State) (o : AluOut) : (s.setAlu o).frameComplete = s.frameComplete := rfl
@[simp] theorem State.setAlu_cfg (s : State) (o : AluOut) : (s.setAlu o).cfg = s.cfg := rfl
@[simp] theorem State.setAlu_script (s : State) (o : AluOut) : (s.setAlu o).script = s.script := rfl

@[simp] theorem State.setCompare_a (s : State) (r m : Byte) : (s.setCompare r m).a = s.a := rfl
@[simp] theorem State.setCompare_x (s : State) (r m : Byte) : (s.setCompare r m).x = s.x := rfl
@[simp] theorem State.setCompare_y (s : State) (r m : Byte) : (s.setCompare r m).y = s.y := rfl
@[simp] theorem State.setCompare_sp (s : State) (r m : Byte) : (s.setCompare r m).sp = s.sp := rfl
@[simp] theorem State.setCompare_pc (s : State) (r m : Byte) : (s.setCompare r m).pc = s.pc := rfl
@[simp] theorem State.setCompare_p (s : State) (r m : Byte) : (s.setCompare r m).p = Machine.setFlag (Machine.setFlag (Machine.setFlag s.p .C (decide (m.toNat ≤ r.toNat))) .Z (r - m == 0)) .N (bit7 (r - m)) := rfl
@[simp] theorem State.setCompare_cycles (s : State) (r m : Byte) : (s.setCompare r m).cycles = s.cycles := rfl
@[simp] theorem State.setCompare_isCompleteCycle (s : State) (r m : Byte) : (s.setCompare r m).isCompleteCycle = s.isCompleteCycle := rfl
@[simp] theorem State.setCompare_opcode (s : State) (r m : Byte) : (s.setCompare r m).opcode = s.opcode := rfl
@[simp] theorem State.setCompare_fetched (s : State) (r m : Byte) : (s.setCompare r m).fetched = s.fetched := rfl
@[simp] theorem State.setCompare_addrAbs (s : State) (r m : Byte) : (s.setCompare r m).addrAbs = s.addrAbs := rfl
@[simp] theorem State.setCompare_addrRel (s : State) (r m : Byte) : (s.setCompare r m).addrRel = s.addrRel := rfl
@[simp] theorem State.setCompare_ram (s : State) (r m : Byte) : (s.setCompare r m).ram = s.ram := rfl
@[simp] theorem State.setCompare_busClockCounter (s : State) (r m : Byte) : (s.setCompare r m).busClockCounter = s.busClockCounter := rfl
@[simp] theorem State.setCompare_cart (s : State) (r m : Byte) : (s.setCompare r m).cart = s.cart := rfl
@[simp] theorem State.setCompare_ppuReg (s : State) (r m : Byte) : (s.setCompare r m).ppuReg = s.ppuReg := rfl
@[simp] theorem State.setCompare_ppuCycle (s : State) (r m : Byte) : (s.setCompare r m).ppuCycle = s.ppuCycle := rfl
@[simp] theorem State.setCompare_ppuScanline (s : State) (r m : Byte) : (s.setCompare r m).ppuScanline = s.ppuScanline := rfl
@[simp] theorem State.setCompare_frameComplete (s : State) (r m : Byte) : (s.setCompare r m).frameComplete = s.frameComplete := rfl
@[simp] theorem State.setCompare_cfg (s : State) (r m : Byte) : (s.setCompare r m).cfg = s.cfg := rfl
@[simp] theorem State.setCompare_script (s : State) (r m : Byte) : (s.setCompare r m).script = s.script := rfl

@[simp] theorem afterOpcode_a (op : Byte) (s : State) : (afterOpcode op s).a = s.a := rfl
@[simp] theorem afterOpcode_x (op : Byte) (s : State) : (afterOpcode op s).x = s.x := rfl
@[simp] theorem afterOpcode_y (op : Byte) (s : State) : (afterOpcode op s).y = s.y := rfl
@[simp] theorem afterOpcode_sp (op : Byte) (s : State) : (afterOpcode op s).sp = s.sp := rfl
@[simp] theorem afterOpcode_pc (op : Byte) (s : State) : (afterOpcode op s).pc = s.pc + 1 := rfl
@[simp] theorem afterOpcode_p (op : Byte) (s : State) : (afterOpcode op s).p = setFlag s.p .U true := rfl
@[simp] theorem afterOpcode_cycles (op : Byte) (s : State) : (afterOpcode op s).cycles = s.cycles := rfl
@[simp] theorem afterOpcode_isCompleteCycle (op : Byte) (s : State) : (afterOpcode op s).isCompleteCycle = s.isCompleteCycle := rfl
@[simp] theorem afterOpcode_opcode (op : Byte) (s : State) : (afterOpcode op s).opcode = op := rfl
@[simp] theorem afterOpcode_fetched (op : Byte) (s : State) : (afterOpcode op s).fetched = s.fetched := rfl
@[simp] theorem afterOpcode_addrAbs (op : Byte) (s : State) : (afterOpcode op s).addrAbs = s.addrAbs := rfl
@[simp] theorem afterOpcode_addrRel (op : Byte) (s : State) : (afterOpcode op s).addrRel = s.addrRel := rfl
@[simp] theorem afterOpcode_ram (op : Byte) (s : State) : (afterOpcode op s).ram = s.ram := rfl
@[simp] theorem afterOpcode_busClockCounter (op : Byte) (s : State) : (afterOpcode op s).busClockCounter = s.busClockCounter := rfl
@[simp] theorem afterOpcode_cart (op : Byte) (s : State) : (afterOpcode op s).cart = s.cart := rfl
@[simp] theorem afterOpcode_ppuReg (op : Byte) (s : State) : (afterOpcode op s).ppuReg = s.ppuReg := rfl
@[simp] theorem afterOpcode_ppuCycle (op : Byte) (s : State) : (afterOpcode op s).ppuCycle = s.ppuCycle := rfl
@[simp] theorem afterOpcode_ppuScanline (op : Byte) (s : State) : (afterOpcode op s).ppuScanline = s.ppuScanline := rfl
@[simp] theorem afterOpcode_frameComplete (op : Byte) (s : State) : (afterOpcode op s).frameComplete = s.frameComplete := rfl
@[simp] theorem afterOpcode_cfg (op : Byte) (s : State) : (afterOpcode op s).cfg = s.cfg := rfl
@[simp] theorem afterOpcode_script (op : Byte) (s : State) : (afterOpcode op s).script = s.script := rfl

@[simp] theorem plain_state (s : State) : (plain s).state = s := rfl
@[simp] theorem plain_opcodeExtra (s : State) : (plain s).opcodeExtra = false := rfl
@[simp] theorem plain_branchExtra (s : State) : (plain s).branchExtra = 0 := rfl
@[simp] theorem crossing_state (s : State) : (crossing s).state = s := rfl
@[simp] theorem crossing_opcodeExtra (s : State) : (crossing s).opcodeExtra = true := rfl
@[simp] theorem crossing_branchExtra (s : State) : (crossing s).branchExtra = 0 := rfl

@[simp] theorem finish_a (base : Nat) (c : Bool) (e : Effect) : (finish base c e).a = e.state.a := rfl
@[simp] theorem finish_x (base : Nat) (c : Bool) (e : Effect) : (finish base c e).x = e.state.x := rfl
@[simp] theorem finish_y (base : Nat) (c : Bool) (e : Effect) : (finish base c e).y = e.state.y := rfl
@[simp] theorem finish_sp (base : Nat) (c : Bool) (e : Effect) : (finish base c e).sp = e.state.sp := rfl
@[simp] theorem finish_pc (base : Nat) (c : Bool) (e : Effect) : (finish base c e).pc = e.state.pc := rfl
@[simp] theorem finish_p (base : Nat) (c : Bool) (e : Effect) : (finish base c e).p = e.state.p := rfl
@[simp] theorem finish_cycles (base : Nat) (c : Bool) (e : Effect) :
    (finish base c e).cycles = base + (c && e.opcodeExtra).toNat + e.branchExtra := rfl
@[simp] theorem finish_isCompleteCycle (base : Nat) (c : Bool) (e : Effect) :
    (finish base c e).isCompleteCycle = true := rfl
@[simp] theorem finish_opcode (base : Nat) (c : Bool) (e : Effect) : (finish base c e).opcode = e.state.opcode := rfl
@[simp] theorem finish_fetched (base : Nat) (c : Bool) (e : Effect) : (finish base c e).fetched = e.state.fetched := rfl
@[simp] theorem finish_addrAbs (base : Nat) (c : Bool) (e : Effect) : (finish base c e).addrAbs = e.state.addrAbs := rfl
@[simp] theorem finish_addrRel (base : Nat) (c : Bool) (e : Effect) : (finish base c e).addrRel = e.state.addrRel := rfl
@[simp] theorem finish_ram (base : Nat) (c : Bool) (e : Effect) : (finish base c e).ram = e.state.ram := rfl
@[simp] theorem finish_busClockCounter (base : Nat) (c : Bool) (e : Effect) : (finish base c e).busClockCounter = e.state.busClockCounter := rfl
@[simp] theorem finish_cart (base : Nat) (c : Bool) (e : Effect) : (finish base c e).cart = e.state.cart := rfl
@[simp] theorem finish_ppuReg (base : Nat) (c : Bool) (e : Effect) : (finish base c e).ppuReg = e.state.ppuReg := rfl
@[simp] theorem finish_ppuCycle (base : Nat) (c : Bool) (e : Effect) : (finish base c e).ppuCycle = e.state.ppuCycle := rfl
@[simp] theorem finish_ppuScanline (base : Nat) (c : Bool) (e : Effect) : (finish base c e).ppuScanline = e.state.ppuScanline := rfl
@[simp] theorem finish_frameComplete (base : Nat) (c : Bool) (e : Effect) : (finish base c e).frameComplete = e.state.frameComplete := rfl
@[simp] theorem finish_cfg (base : Nat) (c : Bool) (e : Effect) : (finish base c e).cfg = e.state.cfg := rfl
@[simp] theorem finish_script (base : Nat) (c : Bool) (e : Effect) : (finish base c e).script = e.state.script := rfl

@[simp] theorem countBusClock_a (s : State) : (countBusClock s).a = s.a := rfl
@[simp] theorem countBusClock_x (s : State) : (countBusClock s).x = s.x := rfl
@[simp] theorem countBusClock_y (s : State) : (countBusClock s).y = s.y := rfl
@[simp] theorem countBusClock_sp (s : State) : (countBusClock s).sp = s.sp := rfl
@[simp] theorem countBusClock_pc (s : State) : (countBusClock s).pc = s.pc := rfl
@[simp] theorem countBusClock_p (s : State) : (countBusClock s).p = s.p := rfl
@[simp] theorem countBusClock_cycles (s : State) : (countBusClock s).cycles = s.cycles := rfl
@[simp] theorem countBusClock_isCompleteCycle (s : State) : (countBusClock s).isCompleteCycle = s.isCompleteCycle := rfl
@[simp] theorem countBusClock_opcode (s : State) : (countBusClock s).opcode = s.opcode := rfl
@[simp] theorem countBusClock_fetched (s : State) : (countBusClock s).fetched = s.fetched := rfl
@[simp] theorem countBusClock_addrAbs (s : State) : (countBusClock s).addrAbs = s.addrAbs := rfl
@[simp] theorem countBusClock_addrRel (s : State) : (countBusClock s).addrRel = s.addrRel := rfl
@[simp] theorem countBusClock_ram (s : State) : (countBusClock s).ram = s.ram := rfl
@[simp] theorem countBusClock_busClockCounter (s : State) : (countBusClock s).busClockCounter = s.busClockCounter + 1 := rfl
@[simp] theorem countBusClock_cart (s : State) : (countBusClock s).cart = s.cart := rfl
@[simp] theorem countBusClock_ppuReg (s : State) : (countBusClock s).ppuReg = s.ppuReg := rfl
@[simp] theorem countBusClock_ppuCycle (s : State) : (countBusClock s).ppuCycle = s.ppuCycle := rfl
@[simp] theorem countBusClock_ppuScanline (s : State) : (countBusClock s).ppuScanline = s.ppuScanline := rfl
@[simp] theorem countBusClock_frameComplete (s : State) : (countBusClock s).frameComplete = s.frameComplete := rfl
@[simp] theorem countBusClock_cfg (s : State) : (countBusClock s).cfg = s.cfg := rfl
@[simp] theorem countBusClock_script (s : State) : (countBusClock s).script = s.script := rfl

@[simp] theorem clearFrameComplete_a (s : State) : (clearFrameComplete s).a = s.a := rfl
@[simp] theorem clearFrameComplete_x (s : State) : (clearFrameComplete s).x = s.x := rfl
@[simp] theorem clearFrameComplete_y (s : State) : (clearFrameComplete s).y = s.y := rfl
@[simp] theorem clearFrameComplete_sp (s : State) : (clearFrameComplete s).sp = s.sp := rfl
@[simp] theorem clearFrameComplete_pc (s : State) : (clearFrameComplete s).pc = s.pc := rfl
@[simp] theorem clearFrameComplete_p (s : State) : (clearFrameComplete s).p = s.p := rfl
@[simp] theorem clearFrameComplete_cycles (s : State) : (clearFrameComplete s).cycles = s.cycles := rfl
@[simp] theorem clearFrameComplete_isCompleteCycle (s : State) : (clearFrameComplete s).isCompleteCycle = s.isCompleteCycle := rfl
@[simp] theorem clearFrameComplete_opcode (s : State) : (clearFrameComplete s).opcode = s.opcode := rfl
@[simp] theorem clearFrameComplete_fetched (s : State) : (clearFrameComplete s).fetched = s.fetched := rfl
@[simp] theorem clearFrameComplete_addrAbs (s : State) : (clearFrameComplete s).addrAbs = s.addrAbs := rfl
@[simp] theorem clearFrameComplete_addrRel (s : State) : (clearFrameComplete s).addrRel = s.addrRel := rfl
@[simp] theorem clearFrameComplete_ram (s : State) : (clearFrameComplete s).ram = s.ram := rfl
@[simp] theorem clearFrameComplete_busClockCounter (s : State) : (clearFrameComplete s).busClockCounter = s.busClockCounter := rfl
@[simp] theorem clearFrameComplete_cart (s : State) : (clearFrameComplete s).cart = s.cart := rfl
@[simp] theorem clearFrameComplete_ppuReg (s : State) : (clearFrameComplete s).ppuReg = s.ppuReg := rfl
@[simp] theorem clearFrameComplete_ppuCycle (s : State) : (clearFrameComplete s).ppuCycle = s.ppuCycle := rfl
@[simp] theorem clearFrameComplete_ppuScanline (s : State) : (clearFrameComplete s).ppuScanline = s.ppuScanline := rfl
@[simp] theorem clearFrameComplete_frameComplete (s : State) : (clearFrameComplete s).frameComplete = false := rfl
@[simp] theorem clearFrameComplete_cfg (s : State) : (clearFrameComplete s).cfg = s.cfg := rfl
@[simp] theorem clearFrameComplete_script (s : State) : (clearFrameComplete s).script = s.script := rfl

@[simp] theorem insertCartridge_a (c : Cartridge) (s : State) : (insertCartridge c s).a = s.a := rfl
@[simp] theorem insertCartridge_x (c : Cartridge) (s : State) : (insertCartridge c s).x = s.x := rfl
@[simp] theorem insertCartridge_y (c : Cartridge) (s : State) : (insertCartridge c s).y = s.y := rfl
@[simp] theorem insertCartridge_sp (c : Cartridge) (s : State) : (insertCartridge c s).sp = s.sp := rfl
@[simp] theorem insertCartridge_pc (c : Cartridge) (s : State) : (insertCartridge c s).pc = s.pc := rfl
@[simp] theorem insertCartridge_p (c : Cartridge) (s : State) : (insertCartridge c s).p = s.p := rfl
@[simp] theorem insertCartridge_cycles (c : Cartridge) (s : State) : (insertCartridge c s).cycles = s.cycles := rfl
@[simp] theorem insertCartridge_isCompleteCycle (c : Cartridge) (s : State) : (insertCartridge c s).isCompleteCycle = s.isCompleteCycle := rfl
@[simp] theorem insertCartridge_opcode (c : Cartridge) (s : State) : (insertCartridge c s).opcode = s.opcode := rfl
@[simp] theorem insertCartridge_fetched (c : Cartridge) (s : State) : (insertCartridge c s).fetched = s.fetched := rfl
@[simp] theorem insertCartridge_addrAbs (c : Cartridge) (s : State) : (insertCartridge c s).addrAbs = s.addrAbs := rfl
@[simp] theorem insertCartridge_addrRel (c : Cartridge) (s : State) : (insertCartridge c s).addrRel = s.addrRel := rfl
@[simp] theorem insertCartridge_ram (c : Cartridge) (s : State) : (insertCartridge c s).ram = s.ram := rfl
@[simp] theorem insertCartridge_busClockCounter (c : Cartridge) (s : State) : (insertCartridge c s).busClockCounter = s.busClockCounter := rfl
@[simp] theorem insertCartridge_cart (c : Cartridge) (s : State) : (insertCartridge c s).cart = some c := rfl
@[simp] theorem insertCartridge_ppuReg (c : Cartridge) (s : State) : (insertCartridge c s).ppuReg = s.ppuReg := rfl
@[simp] theorem insertCartridge_ppuCycle (c : Cartridge) (s : State) : (insertCartridge c s).ppuCycle = s.ppuCycle := rfl
@[simp] theorem insertCartridge_ppuScanline (c : Cartridge) (s : State) : (insertCartridge c s).ppuScanline = s.ppuScanline := rfl
@[simp] theorem insertCartridge_frameComplete (c : Cartridge) (s : State) : (insertCartridge c s).frameComplete = s.frameComplete := rfl
@[simp] theorem insertCartridge_cfg (c : Cartridge) (s : State) : (insertCartridge c s).cfg = s.cfg := rfl
@[simp] theorem insertCartridge_script (c : Cartridge) (s : State) : (insertCartridge c s).script = s.script := rfl

@[simp] theorem writeTarget_a (s : State) (k : Target) (v : Byte) : (writeTarget s k v).a = s.a := by
  unfold writeTarget; split <;> [rfl; rfl; (split <;> rfl); rfl]
@[simp] theorem writeTarget_x (s : State) (k : Target) (v : Byte) : (writeTarget s k v).x = s.x := by
  unfold writeTarget; split <;> [rfl; rfl; (split <;> rfl); rfl]
@[simp] theorem writeTarget_y (s : State) (k : Target) (v : Byte) : (writeTarget s k v).y = s.y := by
  unfold writeTarget; split <;> [rfl; rfl; (split <;> rfl); rfl]
@[simp] theorem writeTarget_sp (s : State) (k : Target) (v : Byte) : (writeTarget s k v).sp = s.sp := by
  unfold writeTarget; split <;> [rfl; rfl; (split <;> rfl); rfl]
@[simp] theorem writeTarget_pc (s : State) (k : Target) (v : Byte) : (writeTarget s k v).pc = s.pc := by
  unfold writeTarget; split <;> [rfl; rfl; (split <;> rfl); rfl]
@[simp] theorem writeTarget_p (s : State) (k : Target) (v : Byte) : (writeTarget s k v).p = s.p := by
  unfold writeTarget; split <;> [rfl; rfl; (split <;> rfl); rfl]
@[simp] theorem writeTarget_cycles (s : State) (k : Target) (v : Byte) : (writeTarget s k v).cycles = s.cycles := by
  unfold writeTarget; split <;> [rfl; rfl; (split <;> rfl); rfl]
@[simp] theorem writeTarget_isCompleteCycle (s : State) (k : Target) (v : Byte) : (writeTarget s k v).isCompleteCycle = s.isCompleteCycle := by
  unfold writeTarget; split <;> [rfl; rfl; (split <;> rfl); rfl]
@[simp] theorem writeTarget_opcode (s : State) (k : Target) (v : Byte) : (writeTarget s k v).opcode = s.opcode := by
  unfold writeTarget; split <;> [rfl; rfl; (split <;> rfl); rfl]
@[simp] theorem writeTarget_fetched (s : State) (k : Target) (v : Byte) : (writeTarget s k v).fetched = s.fetched := by
  unfold writeTarget; split <;> [rfl; rfl; (split <;> rfl); rfl]
@[simp] theorem writeTarget_addrAbs (s : State) (k : Target) (v : Byte) : (writeTarget s k v).addrAbs = s.addrAbs := by
  unfold writeTarget; split <;> [rfl; rfl; (split <;> rfl); rfl]
@[simp] theorem writeTarget_addrRel (s : State) (k : Target) (v : Byte) : (writeTarget s k v).addrRel = s.addrRel := by
  unfold writeTarget; split <;> [rfl; rfl; (split <;> rfl); rfl]
@[simp] theorem writeTarget_busClockCounter (s : State) (k : Target) (v : Byte) : (writeTarget s k v).busClockCounter = s.busClockCounter := by
  unfold writeTarget; split <;> [rfl; rfl; (split <;> rfl); rfl]
@[simp] theorem writeTarget_ppuCycle (s : State) (k : Target) (v : Byte) : (writeTarget s k v).ppuCycle = s.ppuCycle := by
  unfold writeTarget; split <;> [rfl; rfl; (split <;> rfl); rfl]
@[simp] theorem writeTarget_ppuScanline (s : State) (k : Target) (v : Byte) : (writeTarget s k v).ppuScanline = s.ppuScanline := by
  unfold writeTarget; split <;> [rfl; rfl; (split <;> rfl); rfl]
@[simp] theorem writeTarget_frameComplete (s : State) (k : Target) (v : Byte) : (writeTarget s k v).frameComplete = s.frameComplete := by
  unfold writeTarget; split <;> [rfl; rfl; (split <;> rfl); rfl]
@[simp] theorem writeTarget_cfg (s : State) (k : Target) (v : Byte) : (writeTarget s k v).cfg = s.cfg := by
  unfold writeTarget; split <;> [rfl; rfl; (split <;> rfl); rfl]
@[simp] theorem writeTarget_script (s : State) (k : Target) (v : Byte) : (writeTarget s k v).script = s.script := by
  unfold writeTarget; split <;> [rfl; rfl; (split <;> rfl); rfl]

@[simp] theorem ppuClock_a (s : State) : (ppuClock s).a = s.a := by
  unfold ppuClock; split <;> [split; skip] <;> rfl
@[simp] theorem ppuClock_x (s : State) : (ppuClock s).x = s.x := by
  unfold ppuClock; split <;> [split; skip] <;> rfl
@[simp] theorem ppuClock_y (s : State) : (ppuClock s).y = s.y := by
  unfold ppuClock; split <;> [split; skip] <;> rfl
@[simp] theorem ppuClock_sp (s : State) : (ppuClock s).sp = s.sp := by
  unfold ppuClock; split <;> [split; skip] <;> rfl
@[simp] theorem ppuClock_pc (s : State) : (ppuClock s).pc = s.pc := by
  unfold ppuClock; split <;> [split; skip] <;> rfl
@[simp] theorem ppuClock_p (s : State) : (ppuClock s).p = s.p := by
  unfold ppuClock; split <;> [split; skip] <;> rfl
@[simp] theorem ppuClock_cycles (s : State) : (ppuClock s).cycles = s.cycles := by
  unfold ppuClock; split <;> [split; skip] <;> rfl
@[simp] theorem ppuClock_isCompleteCycle (s : State) : (ppuClock s).isCompleteCycle = s.isCompleteCycle := by
  unfold ppuClock; split <;> [split; skip] <;> rfl
@[simp] theorem ppuClock_opcode (s : State) : (ppuClock s).opcode = s.opcode := by
  unfold ppuClock; split <;> [split; skip] <;> rfl
@[simp] theorem ppuClock_fetched (s : State) : (ppuClock s).fetched = s.fetched := by
  unfold ppuClock; split <;> [split; skip] <;> rfl
@[simp] theorem ppuClock_addrAbs (s : State) : (ppuClock s).addrAbs = s.addrAbs := by
  unfold ppuClock; split <;> [split; skip] <;> rfl
@[simp] theorem ppuClock_addrRel (s : State) : (ppuClock s).addrRel = s.addrRel := by
  unfold ppuClock; split <;> [split; skip] <;> rfl
@[simp] theorem ppuClock_ram (s : State) : (ppuClock s).ram = s.ram := by
  unfold ppuClock; split <;> [split; skip] <;> rfl
@[simp] theorem ppuClock_busClockCounter (s : State) : (ppuClock s).busClockCounter = s.busClockCounter := by
  unfold ppuClock; split <;> [split; skip] <;> rfl
@[simp] theorem ppuClock_cart (s : State) : (ppuClock s).cart = s.cart := by
  unfold ppuClock; split <;> [split; skip] <;> rfl
@[simp] theorem ppuClock_ppuReg (s : State) : (ppuClock s).ppuReg = s.ppuReg := by
  unfold ppuClock; split <;> [split; skip] <;> rfl
@[simp] theorem ppuClock_cfg (s : State) : (ppuClock s).cfg = s.cfg := by
  unfold ppuClock; split <;> [split; skip] <;> rfl
@[simp] theorem ppuClock_script (s : State) : (ppuClock s).script = s.script := by
  unfold ppuClock; split <;> [split; skip] <;> rfl

/-- Reading a flag after writing one: the flag written has the value, every other is unchanged. -/
@[simp] theorem getFlag_setFlag (p : Byte) (f g : Flag) (v : Bool) :
    getFlag (setFlag p f v) g = if g = f then v else getFlag p g := by
  have hb : (f.bit = g.bit) = (g = f) := by cases f <;> cases g <;> decide
  have hf : f.bit < 8 := by cases f <;> decide
  have hg : g.bit < 8 := by cases g <;> decide
  cases v <;> simp only [getFlag, setFlag, Flag.mask, Bool.false_eq_true, if_true, if_false,
    BitVec.getLsbD_or, BitVec.getLsbD_and, BitVec.getLsbD_not, BitVec.getLsbD_twoPow, hf, hg, hb] <;>
    by_cases h : g = f <;> simp [h, hf, hg]

/-- A byte is known by its eight flags. -/
theorem flags_ext {p q : Byte} (h : ∀ f, getFlag p f = getFlag q f) : p = q := by
  apply BitVec.eq_of_getLsbD_eq
  intro k hk
  have : k = 0 ∨ k = 1 ∨ k = 2 ∨ k = 3 ∨ k = 4 ∨ k = 5 ∨ k = 6 ∨ k = 7 := by omega
  rcases this with rfl | rfl | rfl | rfl | rfl | rfl | rfl | rfl
  · exact h .C
  · exact h .Z
  · exact h .I
  · exact h .D
  · exact h .B
  · exact h .U
  · exact h .V
  · exact h .N

end Sys2Proof.Machine
end

