-- ==== Sys2Proof/Laws/Bus.lean ====
section
/-! SUPPORT. The laws of the bus: what an access does when the bus answers, and what a write changes. -/

namespace Sys2Proof.Machine

/-- The cell an address names when the bus answers. -/
def targetOf (s : State) (a : Word) : Target :=
  match s.cart with
  | none => windowTarget a
  | some c =>
    match mapCpu c.header a with
    | some off => .prg off
    | none => windowTarget a

theorem busDecode_ready {s : State} (h : busReady s = true) (a : Word) :
    busDecode s a = .ok (targetOf s a) := by
  unfold busReady at h
  unfold busDecode targetOf
  cases hc : s.cart with
  | none => rfl
  | some c =>
    simp only [hc] at h
    obtain ⟨m, hm⟩ := Option.isSome_iff_exists.mp h
    cases m
    simp only [hm]
    cases mapCpu c.header a <;> rfl

theorem busDecode_notReady {s : State} (h : busReady s = false) (a : Word) :
    busDecode s a = .error (.mapperUnavailable a) := by
  unfold busReady at h
  unfold busDecode
  cases hc : s.cart with
  | none => simp [hc] at h
  | some c =>
    simp only [hc] at h
    have hm : c.header.mapper = none := by simpa using h
    simp only [hm]

@[simp] theorem busRead_ready {s : State} (h : busReady s = true) (a : Word) (ro : Bool) :
    busRead s a ro = .ok (readTarget s (targetOf s a)) := by
  rw [busRead, busDecode_ready h]; rfl

theorem busRead_notReady {s : State} (h : busReady s = false) (a : Word) (ro : Bool) :
    busRead s a ro = .error (.mapperUnavailable a) := by
  rw [busRead, busDecode_notReady h]; rfl

theorem busWrite_ready {s : State} (h : busReady s = true) (a : Word) (v : Byte) :
    busWrite s a v = .ok (writeTarget s (targetOf s a) v) := by
  rw [busWrite, busDecode_ready h]; rfl

theorem busWrite_notReady {s : State} (h : busReady s = false) (a : Word) (v : Byte) :
    busWrite s a v = .error (.mapperUnavailable a) := by
  rw [busWrite, busDecode_notReady h]; rfl

@[simp] theorem memRead_ready {s : State} (h : busReady s = true) (a : Word) :
    memRead s a = .ok (readTarget s (targetOf s a)) := busRead_ready h a false

@[simp] theorem memWrite_ready {s : State} (h : busReady s = true) (a : Word) (v : Byte) :
    memWrite s a v = .ok (writeTarget s (targetOf s a) v) := busWrite_ready h a v

/-! What an access depends on: the header of the cartridge, and the stores. -/

theorem busReady_congr {s t : State} (h : t.cart.map (·.header) = s.cart.map (·.header)) :
    busReady t = busReady s := by
  unfold busReady
  cases hs : s.cart <;> cases ht : t.cart <;> simp_all

theorem targetOf_congr {s t : State} (h : t.cart.map (·.header) = s.cart.map (·.header)) (a : Word) :
    targetOf t a = targetOf s a := by
  unfold targetOf
  cases hs : s.cart <;> cases ht : t.cart <;> simp_all

theorem busDecode_congr {s t : State} (h : t.cart.map (·.header) = s.cart.map (·.header)) (a : Word) :
    busDecode t a = busDecode s a := by
  unfold busDecode
  cases hs : s.cart <;> cases ht : t.cart <;> simp_all

theorem readTarget_congr {s t : State} (h : sameStores s t) (k : Target) :
    readTarget t k = readTarget s k := by
  cases k <;> simp [readTarget, h.1, h.2.1, h.2.2]

theorem busReady_of_cart {s t : State} (h : t.cart = s.cart) : busReady t = busReady s :=
  busReady_congr (by rw [h])

theorem targetOf_of_cart {s t : State} (h : t.cart = s.cart) (a : Word) : targetOf t a = targetOf s a :=
  targetOf_congr (by rw [h]) a

/-! A write. -/

@[simp] theorem writeTarget_header (s : State) (k : Target) (v : Byte) :
    (writeTarget s k v).cart.map (·.header) = s.cart.map (·.header) := by
  unfold writeTarget
  split <;> [rfl; rfl; skip; rfl]
  split
  · cases s.cart <;> rfl
  · rfl

@[simp] theorem writeTarget_chr (s : State) (k : Target) (v : Byte) :
    (writeTarget s k v).cart.map (fun c => (c.header, c.chr)) =
      s.cart.map (fun c => (c.header, c.chr)) := by
  unfold writeTarget
  split <;> [rfl; rfl; skip; rfl]
  split
  · cases s.cart <;> rfl
  · rfl

@[simp] theorem busReady_writeTarget (s : State) (k : Target) (v : Byte) :
    busReady (writeTarget s k v) = busReady s := busReady_congr (writeTarget_header s k v)

@[simp] theorem targetOf_writeTarget (s : State) (k : Target) (v : Byte) (a : Word) :
    targetOf (writeTarget s k v) a = targetOf s a := targetOf_congr (writeTarget_header s k v) a

@[simp] theorem busDecode_writeTarget (s : State) (k : Target) (v : Byte) (a : Word) :
    busDecode (writeTarget s k v) a = busDecode s a := busDecode_congr (writeTarget_header s k v) a

/-- A write leaves every other cell alone. -/
theorem readTarget_writeTarget_other (s : State) {j k : Target} (v : Byte) (h : j ≠ k) :
    readTarget (writeTarget s k v) j = readTarget s j := by
  cases k with
  | unmapped => rfl
  | ram k => cases j <;> simp_all [writeTarget, readTarget, Memory.read_write_other]
  | ppuReg k => cases j <;> simp_all [writeTarget, readTarget, Memory.read_write_other]
  | prg k =>
    unfold writeTarget
    simp only
    split
    · cases j with
      | prg j =>
        simp only [readTarget]
        cases s.cart <;> simp_all [Memory.read_write_other]
      | _ => rfl
    · rfl

/-- The stores are canonical: what reading back a write needs. -/
structure Canonical (s : State) : Prop where
  ram : s.ram.wf = true
  ppuReg : s.ppuReg.wf = true
  prg : ∀ c, s.cart = some c → c.prg.wf = true

theorem MachineInv.canonical {s : State} (h : MachineInv s) : Canonical s where
  ram := h.ramCanonical
  ppuReg := h.ppuRegCanonical
  prg c hc := by
    have := h.cartWf c hc
    simp only [Cartridge.wf, Bool.and_eq_true] at this
    exact this.1.2.1

theorem Canonical.of_sameStores {s t : State} (h : sameStores s t) (hs : Canonical s) : Canonical t where
  ram := h.1 ▸ hs.ram
  ppuReg := h.2.1 ▸ hs.ppuReg
  prg := h.2.2 ▸ hs.prg

theorem Canonical.writeTarget {s : State} (h : Canonical s) (k : Target) (v : Byte) :
    Canonical (writeTarget s k v) := by
  unfold Machine.writeTarget
  split
  · exact ⟨Memory.wf_write h.ram _ _, h.ppuReg, h.prg⟩
  · exact ⟨h.ram, Memory.wf_write h.ppuReg _ _, h.prg⟩
  · split
    · refine ⟨h.ram, h.ppuReg, fun c hc => ?_⟩
      obtain ⟨d, hd, rfl⟩ := Option.map_eq_some_iff.mp hc
      exact Memory.wf_write (h.prg d hd) _ _
    · exact h
  · exact h

/-- The cell just written holds the byte, if it keeps what is written to it; an address decodes to program
memory only when there is a cartridge. -/
theorem readTarget_writeTarget_same {s : State} (h : Canonical s) (a : Word) (v : Byte) :
    readTarget (writeTarget s (targetOf s a) v) (targetOf s a) =
      if accepts s (targetOf s a) then v else readTarget s (targetOf s a) := by
  cases hk : targetOf s a with
  | ram k => simp [writeTarget, readTarget, accepts, Memory.read_write_same h.ram]
  | ppuReg k => simp [writeTarget, readTarget, accepts, Memory.read_write_same h.ppuReg]
  | unmapped => simp [readTarget, accepts]
  | prg k =>
    cases hc : s.cart with
    | none =>
      simp only [targetOf, hc, windowTarget] at hk
      split at hk
      · cases hk
      · split at hk <;> cases hk
    | some c =>
      by_cases hw : s.cfg.prgWritable = true
      · simp [writeTarget, accepts, readTarget, hc, hw, Memory.read_write_same (h.prg c hc)]
      · simp [writeTarget, accepts, hw]

/-- The write of a byte stores it at its address and changes no other byte. -/
theorem storedAt_writeTarget {s : State} (h : Canonical s) (hr : busReady s = true) (a : Word) (v : Byte) :
    storedAt s (writeTarget s (targetOf s a) v) a v := by
  intro k hk
  rw [busDecode_ready hr] at hk
  obtain rfl := Except.ok.inj hk
  exact readTarget_writeTarget_same h a v

theorem memoryFrame_writeTarget {s : State} (hr : busReady s = true) (a : Word) (v : Byte) :
    memoryFrame s (writeTarget s (targetOf s a) v) [a] := by
  refine ⟨fun b => busDecode_writeTarget .., fun k hk => readTarget_writeTarget_other s v ?_⟩
  intro hka
  exact hk a (by simp) (by rw [busDecode_ready hr, hka])

/-! The stack: its addresses lie in RAM, each stack pointer naming its own byte. -/

theorem stackAddr_toNat (sp : Byte) : (stackAddr sp).toNat = 256 + sp.toNat := by
  have := sp.isLt
  have h : (0x0100 : Word).toNat = 256 := rfl
  simp only [stackAddr, zeroExtend, BitVec.toNat_add, BitVec.toNat_setWidth, h]
  omega

theorem targetOf_stackAddr (s : State) (sp : Byte) :
    targetOf s (stackAddr sp) = .ram (256 + sp.toNat) := by
  have hlt := sp.isLt
  have hn := stackAddr_toNat sp
  have hw : windowTarget (stackAddr sp) = .ram (256 + sp.toNat) := by
    unfold windowTarget
    rw [if_pos (by omega)]
    congr 1
    rw [BitVec.toNat_and, hn, show (0x07FF : Word).toNat = 2 ^ 11 - 1 by rfl,
      Nat.and_two_pow_sub_one_eq_mod]
    omega
  unfold targetOf
  split
  · exact hw
  · have : mapCpu ‹Cartridge›.header (stackAddr sp) = none := by
      unfold mapCpu
      rw [if_neg (by omega)]
    rw [this]
    exact hw

theorem stackTarget_inj {s : State} {p q : Byte} (h : p ≠ q) :
    targetOf s (stackAddr p) ≠ targetOf s (stackAddr q) := by
  rw [targetOf_stackAddr, targetOf_stackAddr]
  intro hc
  injection hc with hc
  exact h (BitVec.eq_of_toNat_eq (by omega))

/-- What a push does when the bus answers. -/
theorem push_ready {s : State} (h : busReady s = true) (v : Byte) :
    push s v = .ok { writeTarget s (targetOf s (stackAddr s.sp)) v with sp := s.sp - 1 } := by
  rw [push, memWrite_ready h]
  simp [bind, Except.bind, pure, Except.pure]

/-- What a pull does when the bus answers. -/
theorem pull_ready {s : State} (h : busReady s = true) :
    pull s = .ok ({ s with sp := s.sp + 1 }, readTarget s (targetOf s (stackAddr (s.sp + 1)))) := by
  have hr : busReady { s with sp := s.sp + 1 } = true := h
  simp only [pull, memRead_ready hr]
  rfl

/-- What reading a word does when the bus answers. -/
theorem read16_ready {s : State} (h : busReady s = true) (a : Word) :
    read16 s a = .ok (wordOf (readTarget s (targetOf s (a + 1))) (readTarget s (targetOf s a))) := by
  simp only [read16, memRead_ready h]
  rfl

end Sys2Proof.Machine
end

