-- ==== Sys2Proof/Laws/Run.lean ====
section
/-! SUPPORT. What the fetch tick does, said once: the addressing routine when the effective address is known,
the operand fetch and the write-back when the bus answers, and the meaning of a documented instruction as
the fetch tick of its table entry. -/

namespace Sys2Proof.Machine

/-- The state after the addressing routine of form `f` has left address `a`. -/
def resolved (f : Form) (s : State) (a : Word) : State :=
  { s with
    addrAbs := a
    pc := s.pc + BitVec.ofNat 16 (operandCount (modeOf f))
    fetched := if f = .imp then s.a else s.fetched
    addrRel := match f with
      | .rel rr => signExtend rr
      | _ => s.addrRel }

theorem resolve_eq {f : Form} {s : State} {a : Word} {c : Bool}
    (h : effectiveAddress f s = .ok (a, c)) : resolve f s = .ok (resolved f s a, c) := by
  cases f
  case imp =>
    obtain ⟨rfl, rfl⟩ := Prod.mk.inj (Except.ok.inj h)
    simp [resolve, resolved, modeOf, operandCount]
  case rel rr =>
    obtain ⟨rfl, rfl⟩ := Prod.mk.inj (Except.ok.inj h)
    simp [resolve, resolved, modeOf, operandCount]
  all_goals
    simp only [resolve, h]
    simp [resolved, bind, Except.bind, pure, Except.pure]

/-- The fetch tick when the effective address is known. -/
theorem tick_eq {op : Byte} {base : Nat} {f : Form} {r : Form → State → Except Fault Effect} {s : State}
    {a : Word} {c : Bool} (h : effectiveAddress f (afterOpcode op s) = .ok (a, c)) :
    tick op base f r s = (r f (resolved f (afterOpcode op s) a)).map (finish base c) := by
  rw [tick, resolve_eq h]
  simp only [bind, Except.bind, pure, Except.pure]
  cases r f (resolved f (afterOpcode op s) a) <;> rfl

theorem run_eq {op : Byte} {base : Nat} {f : Form} {r : Form → State → Except Fault Effect} {s : State}
    {a : Word} {c : Bool} {e : Effect} (h : effectiveAddress f (afterOpcode op s) = .ok (a, c))
    (he : r f (resolved f (afterOpcode op s) a) = .ok e) :
    run op base f r s = .next (finish base c e) := by
  rw [run, tick_eq h, he]
  rfl

/-- When the bus answers, every mode has its effective address. -/
theorem effectiveAddress_ready {s : State} (h : busReady s = true) (f : Form) :
    ∃ a c, effectiveAddress f s = .ok (a, c) := by
  suffices ∃ p, effectiveAddress f s = .ok p from ⟨this.choose.1, this.choose.2, this.choose_spec⟩
  cases f <;> simp [effectiveAddress, readPointer, h, bind, Except.bind, pure, Except.pure]

@[simp] theorem busReady_afterOpcode (op : Byte) (s : State) : busReady (afterOpcode op s) = busReady s :=
  rfl

@[simp] theorem targetOf_afterOpcode (op : Byte) (s : State) (a : Word) :
    targetOf (afterOpcode op s) a = targetOf s a := rfl

@[simp] theorem busReady_resolved (f : Form) (s : State) (a : Word) :
    busReady (resolved f s a) = busReady s := rfl

@[simp] theorem targetOf_resolved (f : Form) (s : State) (a b : Word) :
    targetOf (resolved f s a) b = targetOf s b := rfl

/-- The operand a mode gives when its address is `a`. -/
def operandAt (f : Form) (s : State) (a : Word) : Byte :=
  match f with
  | .imp => s.a
  | .imm v => v
  | _ => readTarget s (targetOf s a)

theorem operand_resolved {f : Form} {op : Byte} {s : State} {a : Word} (h : busReady s = true) :
    operand f (resolved f (afterOpcode op s) a) =
      .ok ({ resolved f (afterOpcode op s) a with fetched := operandAt f s a }, operandAt f s a) := by
  cases f
  case imp => rfl
  case imm v => rfl
  all_goals
    unfold operand
    simp only [memRead_ready (s := resolved _ (afterOpcode op s) a) h]
    rfl

theorem operandOf_eq {i : Instr} {s : State} {a : Word} {c : Bool} (h : busReady s = true)
    (ha : addressOf i s = .ok (a, c)) : operandOf i s = .ok (operandAt (formOf i) s a) := by
  unfold operandOf
  cases formOf i <;> simp [ha, operandAt, h, bind, Except.bind]

/-- The write-back of a memory form when the bus answers. -/
theorem writeBack_ready {f : Form} {s : State} (hf : f ≠ .imp) (h : busReady s = true) (t : Byte) :
    writeBack f t s = .ok (writeTarget s (targetOf s s.addrAbs) t) := by
  cases f <;> first | exact absurd rfl hf | exact memWrite_ready h s.addrAbs t

/-- The meaning of a documented instruction is the fetch tick of its table entry: its opcode byte, its base
cycle count, its operand form and its mnemonic's routine (30_encoding R113, R114). -/
theorem exec_of_assemble_literal {m : Mnemonic} {f : Form} {i : Instr} (h : assemble m f = some i) :
    ∃ op n, (∀ s, exec i s = run op n f (routineOf (entry m (modeOf f) 0)) s) ∧
      opcodeOf i = op ∧ (descriptor op).baseCycles = n ∧ formOf i = f := by
  cases m <;> cases f <;> cases h <;> exact ⟨_, _, fun _ => rfl, rfl, rfl, rfl⟩

theorem exec_of_assemble {m : Mnemonic} {f : Form} {i : Instr} (h : assemble m f = some i) (s : State) :
    exec i s = run (opcodeOf i) (baseCyclesOf i) f (routineOf (entry m (modeOf f) 0)) s := by
  obtain ⟨op, n, hs, rfl, rfl, -⟩ := exec_of_assemble_literal h
  exact hs s

theorem formOf_of_assemble {m : Mnemonic} {f : Form} {i : Instr} (h : assemble m f = some i) :
    formOf i = f := by
  obtain ⟨-, -, -, -, -, hf⟩ := exec_of_assemble_literal h
  exact hf

/-- A documented instruction when the bus answers: its address and its operand, and its meaning once its
routine's effect is known. -/
theorem exec_of_assemble_ready {m : Mnemonic} {f : Form} {i : Instr} (h : assemble m f = some i) {s : State}
    (hr : busReady s = true) :
    ∃ a c, addressOf i s = .ok (a, c) ∧ operandOf i s = .ok (operandAt f s a) ∧
      operand f (resolved f (afterOpcode (opcodeOf i) s) a) =
        .ok ({ resolved f (afterOpcode (opcodeOf i) s) a with fetched := operandAt f s a },
          operandAt f s a) ∧
      ∀ e, routineOf (entry m (modeOf f) 0) f (resolved f (afterOpcode (opcodeOf i) s) a) = .ok e →
        exec i s = .next (finish (baseCyclesOf i) c e) := by
  obtain ⟨a, c, ha⟩ := effectiveAddress_ready (s := afterOpcode (opcodeOf i) s) hr f
  have hf := formOf_of_assemble h
  have hA : addressOf i s = .ok (a, c) := by rw [addressOf, hf, ha]
  refine ⟨a, c, hA, ?_, operand_resolved hr, fun e he => ?_⟩
  · rw [operandOf_eq hr hA, hf]
  · rw [exec_of_assemble h, run_eq ha he]

theorem resolved_imp (s : State) : resolved .imp s s.addrAbs = { s with fetched := s.a } := by
  simp [resolved, modeOf, operandCount]

/-- A documented instruction of mode IMP, which needs no address. -/
theorem exec_of_assemble_imp {m : Mnemonic} {i : Instr} (h : assemble m .imp = some i) {s : State}
    {e : Effect}
    (he : routineOf (entry m .IMP 0) .imp { afterOpcode (opcodeOf i) s with fetched := s.a } = .ok e) :
    exec i s = .next (finish (baseCyclesOf i) false e) := by
  rw [exec_of_assemble h]
  refine run_eq (a := s.addrAbs) (c := false) rfl ?_
  rw [show s.addrAbs = (afterOpcode (opcodeOf i) s).addrAbs from rfl, resolved_imp]
  exact he

/-- The base cycle count, when the opcode byte is a literal. -/
theorem baseCyclesOf_of_opcode {i : Instr} {op : Byte} {n : Nat} (h : opcodeOf i = op)
    (hn : (descriptor op).baseCycles = n) : baseCyclesOf i = n := by
  rw [baseCyclesOf, h, hn]

end Sys2Proof.Machine
end

