-- ==== Sys2Proof/Laws/Cases.lean ====
section
/-! SUPPORT. Every instruction is a documented one, made by an assembly line, or one of the stubs: how a
proof about `exec` at every instruction splits. -/

namespace Sys2Proof.Machine

theorem documented_of_literals {i : Instr} {op : Byte} {n : Nat} {f : Form} {m : Mnemonic}
    {r : Form → State → Except Fault Effect} (_ : ∀ s, exec i s = run op n f r s) (_ : opcodeOf i = op)
    (_ : (descriptor op).routine = .of m) (h : assemble m f = some i) : ∃ m f, assemble m f = some i :=
  ⟨m, f, h⟩

theorem stub_of_literals {i : Instr} {op : Byte} {n : Nat} {r : StubRoutine}
    (h : ∀ s, exec i s = stub op n r s) (ho : opcodeOf i = op)
    (hd : (descriptor op).documented = false) (hn : (descriptor op).baseCycles = n)
    (hf : formOf i = .imp) :
    ∃ r, (∀ s, exec i s = stub (opcodeOf i) (baseCyclesOf i) r s) ∧ documented i = false ∧
      formOf i = .imp := by
  subst ho hn
  exact ⟨r, h, hd, hf⟩

/-- An assembly line makes a documented instruction. -/
theorem documented_of_assemble {m : Mnemonic} {f : Form} {i : Instr} (h : assemble m f = some i) :
    documented i = true := by
  cases m <;> cases f <;> cases h <;> (simp only [documented, opcodeOf]; decide)

theorem instr_cases (i : Instr) :
    (∃ m f, assemble m f = some i) ∨
      ∃ r, (∀ s, exec i s = stub (opcodeOf i) (baseCyclesOf i) r s) ∧ documented i = false ∧
        formOf i = .imp := by
  cases i <;> first
    | (apply Or.inl; apply documented_of_literals; · intro s; rfl
       · rfl
       · rfl
       · rfl)
    | (apply Or.inl; apply documented_of_literals; · intro s; delta exec; dsimp only; rfl
       · rfl
       · rfl
       · rfl)
    | (apply Or.inr; apply stub_of_literals; · intro s; rfl
       · rfl
       · rfl
       · rfl
       · rfl)

end Sys2Proof.Machine
end

