-- ==== Sys2Proof/Laws/Decode.lean ====
section
/-! SUPPORT. What the decoder makes of an opcode byte, said once: the instruction with that opcode, of its
table entry's mode, holding the operand bytes. -/

namespace Sys2Proof

theorem loByte_wordOf (hi lo : Byte) : Machine.loByte (Machine.wordOf hi lo) = lo := by
  apply BitVec.eq_of_getLsbD_eq
  intro k hk
  simp only [Machine.loByte, Machine.wordOf, BitVec.getLsbD_extractLsb', BitVec.getLsbD_append]
  simp [hk]

theorem hiByte_wordOf (hi lo : Byte) : Machine.hiByte (Machine.wordOf hi lo) = hi := by
  apply BitVec.eq_of_getLsbD_eq
  intro k hk
  simp only [Machine.hiByte, Machine.wordOf, BitVec.getLsbD_extractLsb', BitVec.getLsbD_append]
  simp [hk]

theorem decodeOp_ofFin (n : Fin 256) (b1 b2 : Byte) (i : Instr) (h : decodeOp (BitVec.ofFin n) b1 b2 = i) :
    opcodeOf i = BitVec.ofFin n ∧
      Machine.modeOf (formOf i) = (Machine.descriptor (BitVec.ofFin n)).mode ∧
      operandList (formOf i) = [b1, b2].take (operandBytes (BitVec.ofFin n)) := by
  subst h
  have e : [Machine.loByte (Machine.wordOf b2 b1), Machine.hiByte (Machine.wordOf b2 b1)] = [b1, b2] := by
    rw [loByte_wordOf, hiByte_wordOf]
  fin_cases n <;> first | exact ⟨rfl, rfl, rfl⟩ | exact ⟨rfl, rfl, e⟩

/-- The instruction decoded from opcode byte `op` and operand bytes `b1`, `b2`. -/
theorem decodeOp_spec (op b1 b2 : Byte) :
    opcodeOf (decodeOp op b1 b2) = op ∧
      Machine.modeOf (formOf (decodeOp op b1 b2)) = (Machine.descriptor op).mode ∧
      operandList (formOf (decodeOp op b1 b2)) = [b1, b2].take (operandBytes op) :=
  decodeOp_ofFin op.toFin b1 b2 _ rfl

end Sys2Proof
end

