-- ==== Sys2Proof/Laws/Stack.lean ====
section
/-! SUPPORT. The stack, taking an exception and returning from one, each said once as the state it leaves
when the bus answers; and how the memory frames and stored bytes of the claims compose. -/

namespace Sys2Proof.Machine

/-! Frames. -/

theorem memoryFrame.of_sameStores {s t : State} (h : sameStores s t) (stored : List Word) :
    memoryFrame s t stored :=
  ⟨fun b => busDecode_congr (by rw [h.2.2]) b, fun k _ => readTarget_congr h k⟩

theorem memoryFrame.trans {s t u : State} {xs ys : List Word} (h : memoryFrame s t xs)
    (h' : memoryFrame t u ys) : memoryFrame s u (xs ++ ys) := by
  refine ⟨fun b => (h'.1 b).trans (h.1 b), fun k hk => (h'.2 k ?_).trans (h.2 k ?_)⟩
  · intro a ha
    rw [h.1]
    exact hk a (List.mem_append_right _ ha)
  · exact fun a ha => hk a (List.mem_append_left _ ha)

theorem memoryFrame.congr {s s' t t' : State} {xs : List Word} (h : memoryFrame s t xs)
    (hs : sameStores s s') (ht : sameStores t t') : memoryFrame s' t' xs := by
  have hs' : sameStores s' s := ⟨hs.1.symm, hs.2.1.symm, hs.2.2.symm⟩
  simpa using ((memoryFrame.of_sameStores hs' []).trans h).trans (memoryFrame.of_sameStores ht [])

theorem storedAt.congr {s s' t t' : State} {a : Word} {v : Byte} (h : storedAt s t a v)
    (hs : sameStores s s') (hcfg : s'.cfg = s.cfg) (ht : sameStores t t') : storedAt s' t' a v := by
  intro k hk
  rw [busDecode_congr (s := s) (by rw [hs.2.2])] at hk
  have ha : accepts s' k = accepts s k := by cases k <;> simp only [accepts, hcfg]
  rw [readTarget_congr ht, readTarget_congr hs, h k hk, ha]

/-- A write from a state with the same stores, and then no change of a store. -/
theorem write_stores {s u t : State} (hr : busReady s = true) (hc : Canonical s) (hu : sameStores s u)
    (hcfg : u.cfg = s.cfg) {a : Word} {v : Byte} (ht : sameStores (writeTarget u (targetOf u a) v) t) :
    storedAt s t a v ∧ memoryFrame s t [a] := by
  have hru : busReady u = true := (busReady_of_cart hu.2.2).trans hr
  have hs : sameStores u s := ⟨hu.1.symm, hu.2.1.symm, hu.2.2.symm⟩
  exact ⟨(storedAt_writeTarget (hc.of_sameStores hu) hru a v).congr hs hcfg.symm ht,
    (memoryFrame_writeTarget hru a v).congr hs ht⟩

/-! The stack. -/

theorem push_eq {s : State} (h : busReady s = true) (v : Byte) :
    push s v = .ok { s with ram := s.ram.write (256 + s.sp.toNat) v, sp := s.sp - 1 } := by
  rw [push_ready h, targetOf_stackAddr]
  rfl

theorem pull_eq {s : State} (h : busReady s = true) :
    pull s = .ok ({ s with sp := s.sp + 1 }, s.ram.read (256 + (s.sp + 1).toNat)) := by
  rw [pull_ready h, targetOf_stackAddr]
  rfl

/-- The RAM after two pushes. -/
def ramPush2 (m : Memory) (sp hi lo : Byte) : Memory :=
  (m.write (256 + sp.toNat) hi).write (256 + (sp - 1).toNat) lo

/-- The RAM after three pushes. -/
def ramPush3 (m : Memory) (sp hi lo v : Byte) : Memory :=
  (ramPush2 m sp hi lo).write (256 + (sp - 2).toNat) v

theorem pushWord_eq {s : State} (h : busReady s = true) (w : Word) :
    pushWord s w =
      .ok { s with ram := ramPush2 s.ram s.sp (hiByte w) (loByte w), sp := s.sp - 2 } := by
  rw [pushWord, push_eq h]
  simp only [bind, Except.bind]
  rw [push_eq]
  swap
  · exact h
  simp only [ramPush2]
  congr 2
  rw [BitVec.sub_sub]
  rfl

theorem pullWord_eq {s : State} (h : busReady s = true) :
    pullWord s = .ok ({ s with sp := s.sp + 2 },
      wordOf (s.ram.read (256 + (s.sp + 2).toNat)) (s.ram.read (256 + (s.sp + 1).toNat))) := by
  rw [pullWord, pull_eq h]
  simp only [bind, Except.bind, pure, Except.pure]
  rw [pull_eq]
  swap
  · exact h
  simp [BitVec.add_assoc]

/-- A bus address outside RAM reads the same whatever RAM holds. -/
theorem readTarget_ram_update (s : State) (m : Memory) {k : Target} (h : ∀ j, k ≠ .ram j) :
    readTarget { s with ram := m } k = readTarget s k := by
  cases k with
  | ram j => exact absurd rfl (h j)
  | _ => rfl

theorem targetOf_high (s : State) {a : Word} (h : 0x2000 ≤ a.toNat) (j : Nat) : targetOf s a ≠ .ram j := by
  have hw : windowTarget a ≠ .ram j := by
    unfold windowTarget
    rw [if_neg (by omega)]
    split <;> nofun
  unfold targetOf
  split
  · exact hw
  · split
    · nofun
    · exact hw

/-- The whole effect of taking an exception through a vector outside RAM. -/
theorem takeException_eq {s : State} (h : busReady s = true) (brk : Bool) (ret vector : Word)
    (hv : 0x2000 ≤ vector.toNat) (hv' : 0x2000 ≤ (vector + 1).toNat) :
    takeException s brk ret vector =
      .ok { s with
        ram := ramPush3 s.ram s.sp (hiByte ret) (loByte ret) (pushedStatus s.p brk)
        sp := s.sp - 3
        p := setFlag (setFlag (setFlag s.p .B false) .U true) .I true
        pc := wordOf (readTarget s (targetOf s (vector + 1))) (readTarget s (targetOf s vector)) } := by
  have hsub : s.sp - 2 - 1 = s.sp - 3 := by rw [BitVec.sub_sub]; rfl
  rw [takeException, pushWord_eq h]
  simp only [bind, Except.bind, pure, Except.pure]
  rw [push_eq]
  swap
  · exact h
  simp only
  rw [read16_ready, hsub]
  swap
  · exact h
  simp only [State.setFlag, ramPush3]
  congr 2
  congr 1
  · exact readTarget_ram_update s _ (targetOf_high s hv')
  · exact readTarget_ram_update s _ (targetOf_high s hv)

/-- The whole effect of returning from one. -/
theorem returnFromException_eq {s : State} (h : busReady s = true) :
    returnFromException s =
      .ok { s with
        sp := s.sp + 3
        p := setFlag (setFlag (s.ram.read (256 + (s.sp + 1).toNat)) .B false) .U true
        pc := wordOf (s.ram.read (256 + (s.sp + 3).toNat)) (s.ram.read (256 + (s.sp + 2).toNat)) } := by
  rw [returnFromException, pull_eq h]
  simp only [bind, Except.bind, pure, Except.pure]
  rw [pullWord_eq]
  swap
  · exact h
  simp [BitVec.add_assoc]

/-! What the pushes leave in RAM. -/

theorem stackIndex_ne {p q : Byte} (h : p ≠ q) : 256 + p.toNat ≠ 256 + q.toNat := fun hc =>
  h (BitVec.eq_of_toNat_eq (by omega))

theorem sub_ne_of_ne {p a b : Byte} (h : a ≠ b) : p - a ≠ p - b := fun hc =>
  h (by simpa using congrArg (p - ·) hc)

theorem self_ne_sub {p a : Byte} (h : a ≠ 0) : p ≠ p - a := fun hc =>
  h (by simpa using (congrArg (p - ·) hc).symm)

theorem ramPush2_wf {m : Memory} (h : m.wf = true) (sp hi lo : Byte) : (ramPush2 m sp hi lo).wf = true :=
  Memory.wf_write (Memory.wf_write h _ _) _ _

theorem ramPush3_wf {m : Memory} (h : m.wf = true) (sp hi lo v : Byte) :
    (ramPush3 m sp hi lo v).wf = true :=
  Memory.wf_write (ramPush2_wf h sp hi lo) _ _

theorem ramPush2_within {m : Memory} (h : m.within 2048 = true) (sp hi lo : Byte) :
    (ramPush2 m sp hi lo).within 2048 = true :=
  Memory.within_write _ (Memory.within_write _ h (by have := sp.isLt; omega))
    (by have := (sp - 1).isLt; omega)

theorem ramPush3_within {m : Memory} (h : m.within 2048 = true) (sp hi lo v : Byte) :
    (ramPush3 m sp hi lo v).within 2048 = true :=
  Memory.within_write _ (ramPush2_within h sp hi lo) (by have := (sp - 2).isLt; omega)

theorem ramPush2_first {m : Memory} (h : m.wf = true) (sp hi lo : Byte) :
    (ramPush2 m sp hi lo).read (256 + sp.toNat) = hi := by
  rw [ramPush2, Memory.read_write_other _ _ (stackIndex_ne (self_ne_sub (by decide))),
    Memory.read_write_same h]

theorem ramPush2_second {m : Memory} (h : m.wf = true) (sp hi lo : Byte) :
    (ramPush2 m sp hi lo).read (256 + (sp - 1).toNat) = lo :=
  Memory.read_write_same (Memory.wf_write h _ _) _ _

theorem ramPush3_first {m : Memory} (h : m.wf = true) (sp hi lo v : Byte) :
    (ramPush3 m sp hi lo v).read (256 + sp.toNat) = hi := by
  rw [ramPush3, Memory.read_write_other _ _ (stackIndex_ne (self_ne_sub (by decide))), ramPush2_first h]

theorem ramPush3_second {m : Memory} (h : m.wf = true) (sp hi lo v : Byte) :
    (ramPush3 m sp hi lo v).read (256 + (sp - 1).toNat) = lo := by
  rw [ramPush3, Memory.read_write_other _ _ (stackIndex_ne (sub_ne_of_ne (by decide))), ramPush2_second h]

theorem ramPush3_third {m : Memory} (h : m.wf = true) (sp hi lo v : Byte) :
    (ramPush3 m sp hi lo v).read (256 + (sp - 2).toNat) = v :=
  Memory.read_write_same (ramPush2_wf h sp hi lo) _ _

/-- A write of one stack byte changes no other byte. -/
theorem memoryFrame_stackWrite {s : State} (h : busReady s = true) (sp v : Byte) :
    memoryFrame s { s with ram := s.ram.write (256 + sp.toNat) v } [stackAddr sp] := by
  have := memoryFrame_writeTarget h (stackAddr sp) v
  rwa [targetOf_stackAddr] at this

theorem memoryFrame_push2 {s : State} (h : busReady s = true) (hi lo : Byte) :
    memoryFrame s { s with ram := ramPush2 s.ram s.sp hi lo } [stackAddr s.sp, stackAddr (s.sp - 1)] :=
  (memoryFrame_stackWrite h s.sp hi).trans
    (memoryFrame_stackWrite (s := { s with ram := s.ram.write (256 + s.sp.toNat) hi }) h (s.sp - 1) lo)

theorem memoryFrame_push3 {s : State} (h : busReady s = true) (hi lo v : Byte) :
    memoryFrame s { s with ram := ramPush3 s.ram s.sp hi lo v }
      [stackAddr s.sp, stackAddr (s.sp - 1), stackAddr (s.sp - 2)] :=
  (memoryFrame_push2 h hi lo).trans
    (memoryFrame_stackWrite (s := { s with ram := ramPush2 s.ram s.sp hi lo }) h (s.sp - 2) v)

end Sys2Proof.Machine
end

