-- ==== Sys2Proof/Laws/Keeps.lean ====
section
/-! SUPPORT. What no instruction and no interrupt entry can break, said once: the devices stay as they are,
the Unused bit stays 1, and the stores keep their form. First for each shared operation, then for each
opcode routine, then for `exec`. -/

namespace Sys2Proof.Machine

/-- From `s` to `t` the devices are the same and no part of the invariant is lost. -/
structure Keeps (s t : State) : Prop where
  devices : sameDevices s t
  unused : s.flag .U = true → t.flag .U = true
  ramCanonical : s.ram.wf = true → t.ram.wf = true
  ramWithin : s.ram.within 2048 = true → t.ram.within 2048 = true
  ppuRegCanonical : s.ppuReg.wf = true → t.ppuReg.wf = true
  ppuRegWithin : s.ppuReg.within 8 = true → t.ppuReg.within 8 = true
  cartWf : (∀ c, s.cart = some c → c.wf = true) → ∀ c, t.cart = some c → c.wf = true

theorem Keeps.of_sameStores {s t : State} (h : sameStores s t) (hd : sameDevices s t)
    (hu : s.flag .U = true → t.flag .U = true) : Keeps s t where
  devices := hd
  unused := hu
  ramCanonical := fun hw => h.1 ▸ hw
  ramWithin := fun hw => h.1 ▸ hw
  ppuRegCanonical := fun hw => h.2.1 ▸ hw
  ppuRegWithin := fun hw => h.2.1 ▸ hw
  cartWf := fun hw => h.2.2 ▸ hw

theorem sameDevices.trans {s t u : State} (h : sameDevices s t) (h' : sameDevices t u) : sameDevices s u :=
  ⟨h'.1.trans h.1, h'.2.1.trans h.2.1, h'.2.2.1.trans h.2.2.1, h'.2.2.2.1.trans h.2.2.2.1,
    h'.2.2.2.2.1.trans h.2.2.2.2.1, h'.2.2.2.2.2.1.trans h.2.2.2.2.2.1,
    h'.2.2.2.2.2.2.trans h.2.2.2.2.2.2⟩

theorem Keeps.trans {s t u : State} (h : Keeps s t) (h' : Keeps t u) : Keeps s u where
  devices := h.devices.trans h'.devices
  unused := h'.unused ∘ h.unused
  ramCanonical := h'.ramCanonical ∘ h.ramCanonical
  ramWithin := h'.ramWithin ∘ h.ramWithin
  ppuRegCanonical := h'.ppuRegCanonical ∘ h.ppuRegCanonical
  ppuRegWithin := h'.ppuRegWithin ∘ h.ppuRegWithin
  cartWf := h'.cartWf ∘ h.cartWf

/-- Updates of registers, scratch and the cycle count; the flags but for U. -/
theorem Keeps.of_registers {s t : State} (h : sameStores s t) (hd : sameDevices s t)
    (hu : t.flag .U = s.flag .U) : Keeps s t :=
  .of_sameStores h hd fun hw => hu.trans hw

theorem MachineInv.of_keeps {s t : State} (hi : MachineInv s) (h : Keeps s t) : MachineInv t where
  unusedSet := h.unused hi.unusedSet
  ramCanonical := h.ramCanonical hi.ramCanonical
  ramWithin := h.ramWithin hi.ramWithin
  ppuRegCanonical := h.ppuRegCanonical hi.ppuRegCanonical
  ppuRegWithin := h.ppuRegWithin hi.ppuRegWithin
  cartWf := h.cartWf hi.cartWf
  ppuCycleRange := h.devices.2.1 ▸ hi.ppuCycleRange
  ppuScanlineLow := h.devices.2.2.1 ▸ hi.ppuScanlineLow
  ppuScanlineHigh := h.devices.2.2.1 ▸ hi.ppuScanlineHigh
  scriptWf := h.devices.2.2.2.2.2.1 ▸ hi.scriptWf

/-! The cells a bus address can name lie inside their stores. -/

theorem windowTarget_ram {a : Word} {k : Nat} (h : windowTarget a = .ram k) : k < 2048 := by
  unfold windowTarget at h
  split at h
  · injection h with h
    have := BitVec.isLt (a &&& 0x07FF)
    rw [← h, BitVec.toNat_and, show (0x07FF : Word).toNat = 2 ^ 11 - 1 from rfl,
      Nat.and_two_pow_sub_one_eq_mod]
    omega
  · split at h <;> cases h

theorem windowTarget_ppuReg {a : Word} {k : Nat} (h : windowTarget a = .ppuReg k) : k < 8 := by
  unfold windowTarget at h
  split at h
  · cases h
  · split at h
    · injection h with h
      rw [← h, BitVec.toNat_and, show (0x0007 : Word).toNat = 2 ^ 3 - 1 from rfl,
        Nat.and_two_pow_sub_one_eq_mod]
      omega
    · cases h

theorem windowTarget_prg (a : Word) (k : Nat) : windowTarget a ≠ .prg k := by
  unfold windowTarget
  split
  · nofun
  · split <;> nofun

theorem mapCpu_lt {h : Header} {a : Word} {k : Nat} (hm : mapCpu h a = some k)
    (hb : 0 < h.prgBanks.toNat) : k < h.prgSize := by
  unfold mapCpu at hm
  split at hm
  · obtain rfl := Option.some.inj hm
    unfold Header.prgSize
    split
    · rw [BitVec.toNat_and, show (0x7FFF : Word).toNat = 2 ^ 15 - 1 from rfl,
        Nat.and_two_pow_sub_one_eq_mod]
      omega
    · rw [BitVec.toNat_and, show (0x3FFF : Word).toNat = 2 ^ 14 - 1 from rfl,
        Nat.and_two_pow_sub_one_eq_mod]
      omega
  · cases hm

/-- A bus address names program memory only through mapper 0 of a cartridge in the slot. -/
theorem targetOf_prg {s : State} {a : Word} {k : Nat} (h : targetOf s a = .prg k) :
    ∃ c, s.cart = some c ∧ mapCpu c.header a = some k := by
  unfold targetOf at h
  split at h
  · exact absurd h (windowTarget_prg a k)
  · split at h
    · injection h with h
      subst h
      exact ⟨_, ‹_›, ‹_›⟩
    · exact absurd h (windowTarget_prg a k)

theorem targetOf_ram {s : State} {a : Word} {k : Nat} (h : targetOf s a = .ram k) : k < 2048 := by
  unfold targetOf at h
  split at h
  · exact windowTarget_ram h
  · split at h
    · cases h
    · exact windowTarget_ram h

theorem targetOf_ppuReg {s : State} {a : Word} {k : Nat} (h : targetOf s a = .ppuReg k) : k < 8 := by
  unfold targetOf at h
  split at h
  · exact windowTarget_ppuReg h
  · split at h
    · cases h
    · exact windowTarget_ppuReg h

theorem Cartridge.wf_iff {c : Cartridge} : c.wf = true ↔
    0 < c.header.prgBanks.toNat ∧ c.prg.wf = true ∧ c.prg.within c.header.prgSize = true ∧
      c.chr.wf = true ∧ c.chr.within c.header.chrSize = true := by
  simp [Cartridge.wf, and_assoc]

/-! The shared operations. -/

theorem keeps_writeTarget (s : State) (a : Word) (v : Byte) :
    Keeps s (writeTarget s (targetOf s a) v) := by
  have hd : sameDevices s (writeTarget s (targetOf s a) v) :=
    ⟨by simp, by simp, by simp, by simp, by simp, by simp, writeTarget_chr ..⟩
  have hu : s.flag .U = true → (writeTarget s (targetOf s a) v).flag .U = true := by
    simp [State.flag]
  cases hk : targetOf s a with
  | ram k =>
    rw [hk] at hd hu
    exact ⟨hd, hu, fun h => Memory.wf_write h _ _, fun h => Memory.within_write _ h (targetOf_ram hk),
      id, id, id⟩
  | ppuReg k =>
    rw [hk] at hd hu
    exact ⟨hd, hu, id, id, fun h => Memory.wf_write h _ _,
      fun h => Memory.within_write _ h (targetOf_ppuReg hk), id⟩
  | unmapped => exact ⟨hk ▸ hd, hk ▸ hu, id, id, id, id, id⟩
  | prg k =>
    rw [hk] at hd hu
    obtain ⟨c, hc, hm⟩ := targetOf_prg hk
    unfold writeTarget at hd hu ⊢
    by_cases hw : s.cfg.prgWritable = true
    · simp only [hw, if_true] at hd hu ⊢
      refine ⟨hd, hu, id, id, id, id, fun h d hd' => ?_⟩
      simp only [hc, Option.map_some, Option.some.injEq] at hd'
      subst hd'
      have h' := Cartridge.wf_iff.mp (h c hc)
      exact Cartridge.wf_iff.mpr ⟨h'.1, Memory.wf_write h'.2.1 _ _,
        Memory.within_write _ h'.2.2.1 (mapCpu_lt hm h'.1), h'.2.2.2⟩
    · simp only [hw] at hd hu ⊢
      exact ⟨hd, hu, id, id, id, id, id⟩

/-- A bus write that completes: the bus answers, and the cell takes the byte. -/
theorem memWrite_ok {s t : State} {a : Word} {v : Byte} (h : memWrite s a v = .ok t) :
    busReady s = true ∧ t = writeTarget s (targetOf s a) v := by
  by_cases hr : busReady s = true
  · rw [memWrite_ready hr] at h
    exact ⟨hr, (Except.ok.inj h).symm⟩
  · rw [memWrite, busWrite_notReady (by simpa using hr)] at h
    cases h

/-- A bus read that completes: the bus answers. -/
theorem memRead_ok {s : State} {a : Word} {v : Byte} (h : memRead s a = .ok v) : busReady s = true := by
  by_cases hr : busReady s = true
  · exact hr
  · rw [memRead, busRead_notReady (by simpa using hr)] at h
    cases h

theorem keeps_memWrite {s t : State} {a : Word} {v : Byte} (h : memWrite s a v = .ok t) : Keeps s t := by
  rw [(memWrite_ok h).2]
  exact keeps_writeTarget s a v

/-- Taking a bind apart. -/
theorem bind_ok {ε α β : Type} {x : Except ε α} {g : α → Except ε β} {b : β} (h : (x >>= g) = .ok b) :
    ∃ a, x = .ok a ∧ g a = .ok b := by
  cases x with
  | error e => cases h
  | ok a => exact ⟨a, rfl, h⟩

/-- A register update keeps everything. -/
theorem keeps_update {s t : State}
    (h : t.ram = s.ram ∧ t.ppuReg = s.ppuReg ∧ t.cart = s.cart := by exact ⟨rfl, rfl, rfl⟩)
    (hd : sameDevices s t := by exact ⟨rfl, rfl, rfl, rfl, rfl, rfl, rfl⟩)
    (hu : t.flag .U = s.flag .U := by rfl) : Keeps s t :=
  .of_registers h hd hu

theorem keeps_push {s t : State} {v : Byte} (h : push s v = .ok t) : Keeps s t := by
  obtain ⟨u, hm, h⟩ := bind_ok h
  obtain rfl := Except.ok.inj h
  exact (keeps_memWrite hm).trans keeps_update

theorem keeps_pushWord {s t : State} {w : Word} (h : pushWord s w = .ok t) : Keeps s t := by
  obtain ⟨u, hm, h⟩ := bind_ok h
  exact (keeps_push hm).trans (keeps_push h)

theorem keeps_pull {s t : State} {v : Byte} (h : pull s = .ok (t, v)) : Keeps s t := by
  obtain ⟨u, -, h⟩ := bind_ok h
  obtain ⟨rfl, -⟩ := Prod.mk.inj (Except.ok.inj h)
  exact keeps_update

theorem keeps_pullWord {s t : State} {w : Word} (h : pullWord s = .ok (t, w)) : Keeps s t := by
  obtain ⟨⟨u, lo⟩, hm, h⟩ := bind_ok h
  obtain ⟨⟨u', hi⟩, hm', h⟩ := bind_ok h
  obtain ⟨rfl, -⟩ := Prod.mk.inj (Except.ok.inj h)
  exact (keeps_pull hm).trans (keeps_pull hm')

theorem keeps_setUnused (s : State) (g : State → State)
    (h : sameStores s (g s) := by exact ⟨rfl, rfl, rfl⟩)
    (hd : sameDevices s (g s) := by exact ⟨rfl, rfl, rfl, rfl, rfl, rfl, rfl⟩)
    (hu : (g s).flag .U = true := by simp [State.flag]) : Keeps s (g s) :=
  .of_sameStores h hd fun _ => hu

theorem keeps_takeException {s t : State} {brk : Bool} {ret vec : Word}
    (h : takeException s brk ret vec = .ok t) : Keeps s t ∧ t.flag .U = true := by
  obtain ⟨u, hm, h⟩ := bind_ok h
  obtain ⟨u', hm', h⟩ := bind_ok h
  obtain ⟨w, -, h⟩ := bind_ok h
  obtain rfl := Except.ok.inj h
  refine ⟨((keeps_pushWord hm).trans (keeps_push hm')).trans
    (.of_sameStores ⟨rfl, rfl, rfl⟩ ⟨rfl, rfl, rfl, rfl, rfl, rfl, rfl⟩ fun _ => ?_), ?_⟩ <;>
  simp [State.flag]

theorem keeps_returnFromException {s t : State} (h : returnFromException s = .ok t) : Keeps s t := by
  obtain ⟨⟨u, v⟩, hm, h⟩ := bind_ok h
  obtain ⟨⟨u', w⟩, hm', h⟩ := bind_ok h
  obtain rfl := Except.ok.inj h
  refine (keeps_pull hm).trans (Keeps.trans ?_ ((keeps_pullWord hm').trans keeps_update))
  exact .of_sameStores ⟨rfl, rfl, rfl⟩ ⟨rfl, rfl, rfl, rfl, rfl, rfl, rfl⟩ fun _ => by simp [State.flag]

theorem keeps_operand {f : Form} {s t : State} {v : Byte} (h : operand f s = .ok (t, v)) : Keeps s t := by
  cases f
  case imp =>
    obtain ⟨rfl, -⟩ := Prod.mk.inj (Except.ok.inj h)
    exact keeps_update
  case imm =>
    obtain ⟨rfl, -⟩ := Prod.mk.inj (Except.ok.inj h)
    exact keeps_update
  all_goals
    obtain ⟨u, -, h⟩ := bind_ok h
    obtain ⟨rfl, -⟩ := Prod.mk.inj (Except.ok.inj h)
    exact keeps_update

theorem keeps_writeBack {f : Form} {s t : State} {v : Byte} (h : writeBack f v s = .ok t) : Keeps s t := by
  cases f
  case imp =>
    obtain rfl := Except.ok.inj h
    exact keeps_update
  all_goals exact keeps_memWrite h

theorem keeps_resolve {f : Form} {s t : State} {c : Bool} (h : resolve f s = .ok (t, c)) : Keeps s t := by
  cases f
  case imp =>
    obtain ⟨rfl, -⟩ := Prod.mk.inj (Except.ok.inj h)
    exact keeps_update
  case rel =>
    obtain ⟨rfl, -⟩ := Prod.mk.inj (Except.ok.inj h)
    exact keeps_update
  all_goals
    obtain ⟨⟨a, c'⟩, -, h⟩ := bind_ok h
    obtain ⟨rfl, -⟩ := Prod.mk.inj (Except.ok.inj h)
    exact keeps_update

/-! The opcode routines. -/

/-- What a routine's effect keeps, and the cycles it can add. -/
structure EffectKeeps (s : State) (e : Effect) : Prop where
  keeps : Keeps s e.state
  extra : e.branchExtra = 0 ∨ e.opcodeExtra = false ∧ e.branchExtra ≤ 2

theorem EffectKeeps.plain {s t : State} (h : Keeps s t) : EffectKeeps s (plain t) := ⟨h, .inl rfl⟩

theorem EffectKeeps.crossing {s t : State} (h : Keeps s t) : EffectKeeps s (crossing t) := ⟨h, .inl rfl⟩

/-- A routine that is an update of flags and registers. -/
theorem EffectKeeps.update {s t : State} {e : Effect} (h : Except.ok (Machine.plain t) = (.ok e : Except Fault Effect))
    (hk : Keeps s t) : EffectKeeps s e := by
  obtain rfl := Except.ok.inj h
  exact .plain hk

theorem EffectKeeps.branch {s : State} {c : Bool} {e : Effect} (h : branch c s = .ok e) :
    EffectKeeps s e := by
  cases c with
  | false => exact .update h keeps_update
  | true =>
    obtain rfl := Except.ok.inj h
    refine ⟨keeps_update, .inr ⟨rfl, ?_⟩⟩
    show (if _ then _ else _) ≤ 2
    split <;> decide

theorem EffectKeeps.shift {f : Form} {s : State} {e : Effect} {r : Byte → Bool → Byte} {c : Byte → Bool}
    (h : shiftBy r c f s = .ok e) : EffectKeeps s e := by
  obtain ⟨⟨t, v⟩, hm, h⟩ := bind_ok h
  obtain ⟨u, hm', h⟩ := bind_ok h
  refine .update h ((keeps_operand hm).trans (Keeps.trans ?_ (keeps_writeBack hm')))
  exact keeps_update (hu := by simp [State.flag])

theorem EffectKeeps.stub {s : State} {f : Form} {x : Bool} {e : Effect} (h : opStub x f s = .ok e) :
    EffectKeeps s e := by
  obtain rfl := Except.ok.inj h
  exact ⟨keeps_update, .inl rfl⟩

/-- The flag and register updates of the routines. -/
theorem keeps_setZN (s : State) (v : Byte) : Keeps s (s.setZN v) :=
  keeps_update (hu := by simp [State.flag])

theorem keeps_setAlu (s : State) (o : AluOut) : Keeps s (s.setAlu o) :=
  keeps_update (hu := by simp [State.flag])

theorem keeps_setCompare (s : State) (r v : Byte) : Keeps s (s.setCompare r v) :=
  keeps_update (hu := by simp [State.flag, State.setCompare])

theorem keeps_setFlag (s : State) {f : Flag} (hf : f ≠ .U) (v : Bool) : Keeps s (s.setFlag f v) :=
  keeps_update (hu := by simp [State.flag, hf.symm])

theorem keeps_a (s : State) (v : Byte) : Keeps s { s with a := v } := keeps_update

theorem keeps_x (s : State) (v : Byte) : Keeps s { s with x := v } := keeps_update

theorem keeps_y (s : State) (v : Byte) : Keeps s { s with y := v } := keeps_update

/-- Every documented routine. -/
theorem routine_keeps (m : Mnemonic) (mode : Mode) (f : Form) (s : State) (e : Effect)
    (h : routineOf (entry m mode 0) f s = .ok e) : EffectKeeps s e := by
  cases m
  case LDA | AND | ORA | EOR =>
    obtain ⟨⟨t, v⟩, hm, h⟩ := bind_ok h
    obtain rfl := Except.ok.inj h
    exact .crossing ((keeps_operand hm).trans ((keeps_setZN t _).trans (keeps_a _ _)))
  case LDX =>
    obtain ⟨⟨t, v⟩, hm, h⟩ := bind_ok h
    obtain rfl := Except.ok.inj h
    exact .crossing ((keeps_operand hm).trans ((keeps_setZN t v).trans (keeps_x _ v)))
  case LDY =>
    obtain ⟨⟨t, v⟩, hm, h⟩ := bind_ok h
    obtain rfl := Except.ok.inj h
    exact .crossing ((keeps_operand hm).trans ((keeps_setZN t v).trans (keeps_y _ v)))
  case ADC | SBC =>
    obtain ⟨⟨t, v⟩, hm, h⟩ := bind_ok h
    obtain rfl := Except.ok.inj h
    exact .crossing ((keeps_operand hm).trans (keeps_setAlu t _))
  case CMP =>
    obtain ⟨⟨t, v⟩, hm, h⟩ := bind_ok h
    obtain rfl := Except.ok.inj h
    exact .crossing ((keeps_operand hm).trans (keeps_setCompare t _ v))
  case CPX | CPY =>
    obtain ⟨⟨t, v⟩, hm, h⟩ := bind_ok h
    exact .update h ((keeps_operand hm).trans (keeps_setCompare t _ v))
  case BIT =>
    obtain ⟨⟨t, v⟩, hm, h⟩ := bind_ok h
    exact .update h ((keeps_operand hm).trans (((keeps_setFlag t (by decide) _).trans
      (keeps_setFlag _ (by decide) _)).trans (keeps_setFlag _ (by decide) _)))
  case STA | STX | STY =>
    obtain ⟨t, hm, h⟩ := bind_ok h
    exact .update h (keeps_memWrite hm)
  case INC | DEC =>
    obtain ⟨⟨t, v⟩, hm, h⟩ := bind_ok h
    obtain ⟨u, hm', h⟩ := bind_ok h
    exact .update h (((keeps_operand hm).trans (keeps_memWrite hm')).trans (keeps_setZN u _))
  case ASL | LSR | ROL | ROR =>
    simp only [routineOf, entry, opAsl, opLsr, opRol, opRor] at h
    exact .shift h
  case BCC | BCS | BEQ | BMI | BNE | BPL | BVC | BVS => exact .branch h
  case NOP => exact .stub (f := f) h
  case TAX | TSX | INX | DEX => exact .update h ((keeps_setZN s _).trans (keeps_x _ _))
  case TAY | INY | DEY => exact .update h ((keeps_setZN s _).trans (keeps_y _ _))
  case TXA | TYA => exact .update h ((keeps_setZN s _).trans (keeps_a _ _))
  case CLC | CLD | CLI | CLV | SEC | SED | SEI => exact .update h (keeps_setFlag s (by decide) _)
  case TXS | JMP => exact .update h keeps_update
  case JSR =>
    obtain ⟨t, hm, h⟩ := bind_ok h
    exact .update h ((keeps_pushWord hm).trans keeps_update)
  case RTS =>
    obtain ⟨⟨t, w⟩, hm, h⟩ := bind_ok h
    exact .update h ((keeps_pullWord hm).trans keeps_update)
  case PHA =>
    obtain ⟨t, hm, h⟩ := bind_ok h
    exact .update h (keeps_push hm)
  case PHP =>
    obtain ⟨t, hm, h⟩ := bind_ok h
    exact .update h ((keeps_push hm).trans (keeps_setUnused t fun t => (t.setFlag .B false).setFlag .U true))
  case PLA =>
    obtain ⟨⟨t, v⟩, hm, h⟩ := bind_ok h
    exact .update h ((keeps_pull hm).trans ((keeps_setZN t v).trans (keeps_a _ v)))
  case PLP =>
    obtain ⟨⟨t, v⟩, hm, h⟩ := bind_ok h
    exact .update h ((keeps_pull hm).trans (keeps_setUnused t fun t => { t with p := setFlag v .U true }))
  case BRK =>
    obtain ⟨t, hm, h⟩ := bind_ok h
    exact .update h (keeps_takeException hm).1
  case RTI =>
    obtain ⟨t, hm, h⟩ := bind_ok h
    exact .update h (keeps_returnFromException hm)

/-! The fetch tick and `exec`. -/

theorem keeps_afterOpcode (op : Byte) (s : State) : Keeps s (afterOpcode op s) :=
  keeps_setUnused s (afterOpcode op)

theorem keeps_finish (n : Nat) (c : Bool) (e : Effect) : Keeps e.state (finish n c e) := keeps_update

/-- A fetch tick whose routine keeps everything: what it leaves, and the cycles it charges. -/
theorem tick_keeps {op : Byte} {n : Nat} {f : Form} {r : Form → State → Except Fault Effect} {s t : State}
    (hr : ∀ s e, r f s = .ok e → EffectKeeps s e) (h : tick op n f r s = .ok t) :
    Keeps s t ∧ t.flag .U = true ∧ t.isCompleteCycle = true ∧ t.cycles ≤ n + 2 := by
  obtain ⟨⟨u, c⟩, hm, h⟩ := bind_ok h
  obtain ⟨e, he, h⟩ := bind_ok h
  obtain rfl := Except.ok.inj h
  have hk := hr u e he
  have h1 : Keeps (afterOpcode op s) (finish n c e) :=
    ((keeps_resolve hm).trans hk.keeps).trans (keeps_finish n c e)
  refine ⟨(keeps_afterOpcode op s).trans h1, h1.unused (by simp [State.flag, afterOpcode]), rfl, ?_⟩
  show n + _ + _ ≤ n + 2
  rcases hk.extra with h0 | ⟨h0, h2⟩
  · rw [h0]
    have := Bool.toNat_le (c && e.opcodeExtra)
    omega
  · rw [h0, Bool.and_false]
    simpa using h2

/-- WHAT NO INSTRUCTION CAN BREAK. -/
theorem exec_keeps {i : Instr} {s t : State} (h : exec i s = .next t) :
    Keeps s t ∧ t.flag .U = true ∧ t.isCompleteCycle = true := by
  have out {r : Except Fault State} (hr : outcomeOf r = .next t) : r = .ok t := by
    cases r with
    | error f => cases hr
    | ok u => exact congrArg _ (Host.Outcome.next.inj hr)
  rcases instr_cases i with ⟨m, f, ha⟩ | ⟨x, hs, -, -⟩
  · rw [exec_of_assemble ha] at h
    obtain ⟨h1, h2, h3, -⟩ := tick_keeps (fun s e => routine_keeps m _ f s e) (out h)
    exact ⟨h1, h2, h3⟩
  · rw [hs] at h
    obtain ⟨f, -, h⟩ := bind_ok (out h)
    obtain ⟨h1, h2, h3, -⟩ := tick_keeps (fun s e => EffectKeeps.stub) h
    exact ⟨h1, h2, h3⟩

end Sys2Proof.Machine
end

