-- ==== Sys2Proof/Laws/PerInstr.lean ====
section
/-! SUPPORT. For each instruction: the decoder gives it back from its own opcode byte and operand bytes,
and it has the length of its opcode's entry. -/

namespace Sys2Proof.Laws.RoundTrip

/-- Decoding the instruction's own bytes gives it back with nothing left over. -/
def Statement (i : Instr) : Prop := decode (encode i) = .ok (i, [])

/-- A word is its two bytes put together. -/
theorem wordOf_bytes (w : Word) : Machine.wordOf (Machine.hiByte w) (Machine.loByte w) = w := by
  apply BitVec.eq_of_getLsbD_eq
  intro k hk
  simp only [Machine.wordOf, Machine.hiByte, Machine.loByte, BitVec.getLsbD_append,
    BitVec.getLsbD_extractLsb']
  split
  · simp_all
  · simp only [show k - 8 < 8 by omega, decide_true, Bool.true_and, show 8 + (k - 8) = k by omega]

/-- The bytes written out, and what they decode to. -/
theorem of_bytes {i : Instr} {bytes : List Byte} (he : encode i = bytes)
    (hd : decode bytes = .ok (i, [])) : Statement i := by
  rw [Statement, he, hd]

/-- The same for a word operand, whose two bytes the decoder puts together. -/
theorem of_word {c : Word → Instr} {op : Byte} {w : Word}
    (he : encode (c w) = [op, Machine.loByte w, Machine.hiByte w])
    (hd : ∀ lo hi, decode [op, lo, hi] = .ok (c (Machine.wordOf hi lo), [])) : Statement (c w) := by
  rw [Statement, he, hd, wordOf_bytes]

theorem ldaImm (v : Byte) : Statement (.ldaImm v) :=
  of_bytes (bytes := [0xA9, v]) rfl rfl
theorem ldaZp0 (ll : Byte) : Statement (.ldaZp0 ll) :=
  of_bytes (bytes := [0xA5, ll]) rfl rfl
theorem ldaZpx (ll : Byte) : Statement (.ldaZpx ll) :=
  of_bytes (bytes := [0xB5, ll]) rfl rfl
theorem ldaAbs (addr : Word) : Statement (.ldaAbs addr) :=
  of_word (c := .ldaAbs) (op := 0xAD) rfl fun _ _ => rfl
theorem ldaAbx (addr : Word) : Statement (.ldaAbx addr) :=
  of_word (c := .ldaAbx) (op := 0xBD) rfl fun _ _ => rfl
theorem ldaAby (addr : Word) : Statement (.ldaAby addr) :=
  of_word (c := .ldaAby) (op := 0xB9) rfl fun _ _ => rfl
theorem ldaIzx (ll : Byte) : Statement (.ldaIzx ll) :=
  of_bytes (bytes := [0xA1, ll]) rfl rfl
theorem ldaIzy (ll : Byte) : Statement (.ldaIzy ll) :=
  of_bytes (bytes := [0xB1, ll]) rfl rfl
theorem ldxImm (v : Byte) : Statement (.ldxImm v) :=
  of_bytes (bytes := [0xA2, v]) rfl rfl
theorem ldxZp0 (ll : Byte) : Statement (.ldxZp0 ll) :=
  of_bytes (bytes := [0xA6, ll]) rfl rfl
theorem ldxZpy (ll : Byte) : Statement (.ldxZpy ll) :=
  of_bytes (bytes := [0xB6, ll]) rfl rfl
theorem ldxAbs (addr : Word) : Statement (.ldxAbs addr) :=
  of_word (c := .ldxAbs) (op := 0xAE) rfl fun _ _ => rfl
theorem ldxAby (addr : Word) : Statement (.ldxAby addr) :=
  of_word (c := .ldxAby) (op := 0xBE) rfl fun _ _ => rfl
theorem ldyImm (v : Byte) : Statement (.ldyImm v) :=
  of_bytes (bytes := [0xA0, v]) rfl rfl
theorem ldyZp0 (ll : Byte) : Statement (.ldyZp0 ll) :=
  of_bytes (bytes := [0xA4, ll]) rfl rfl
theorem ldyZpx (ll : Byte) : Statement (.ldyZpx ll) :=
  of_bytes (bytes := [0xB4, ll]) rfl rfl
theorem ldyAbs (addr : Word) : Statement (.ldyAbs addr) :=
  of_word (c := .ldyAbs) (op := 0xAC) rfl fun _ _ => rfl
theorem ldyAbx (addr : Word) : Statement (.ldyAbx addr) :=
  of_word (c := .ldyAbx) (op := 0xBC) rfl fun _ _ => rfl
theorem staZp0 (ll : Byte) : Statement (.staZp0 ll) :=
  of_bytes (bytes := [0x85, ll]) rfl rfl
theorem staZpx (ll : Byte) : Statement (.staZpx ll) :=
  of_bytes (bytes := [0x95, ll]) rfl rfl
theorem staAbs (addr : Word) : Statement (.staAbs addr) :=
  of_word (c := .staAbs) (op := 0x8D) rfl fun _ _ => rfl
theorem staAbx (addr : Word) : Statement (.staAbx addr) :=
  of_word (c := .staAbx) (op := 0x9D) rfl fun _ _ => rfl
theorem staAby (addr : Word) : Statement (.staAby addr) :=
  of_word (c := .staAby) (op := 0x99) rfl fun _ _ => rfl
theorem staIzx (ll : Byte) : Statement (.staIzx ll) :=
  of_bytes (bytes := [0x81, ll]) rfl rfl
theorem staIzy (ll : Byte) : Statement (.staIzy ll) :=
  of_bytes (bytes := [0x91, ll]) rfl rfl
theorem stxZp0 (ll : Byte) : Statement (.stxZp0 ll) :=
  of_bytes (bytes := [0x86, ll]) rfl rfl
theorem stxZpy (ll : Byte) : Statement (.stxZpy ll) :=
  of_bytes (bytes := [0x96, ll]) rfl rfl
theorem stxAbs (addr : Word) : Statement (.stxAbs addr) :=
  of_word (c := .stxAbs) (op := 0x8E) rfl fun _ _ => rfl
theorem styZp0 (ll : Byte) : Statement (.styZp0 ll) :=
  of_bytes (bytes := [0x84, ll]) rfl rfl
theorem styZpx (ll : Byte) : Statement (.styZpx ll) :=
  of_bytes (bytes := [0x94, ll]) rfl rfl
theorem styAbs (addr : Word) : Statement (.styAbs addr) :=
  of_word (c := .styAbs) (op := 0x8C) rfl fun _ _ => rfl
theorem taxImp : Statement .taxImp := of_bytes (bytes := [0xAA]) rfl rfl
theorem tayImp : Statement .tayImp := of_bytes (bytes := [0xA8]) rfl rfl
theorem tsxImp : Statement .tsxImp := of_bytes (bytes := [0xBA]) rfl rfl
theorem txaImp : Statement .txaImp := of_bytes (bytes := [0x8A]) rfl rfl
theorem txsImp : Statement .txsImp := of_bytes (bytes := [0x9A]) rfl rfl
theorem tyaImp : Statement .tyaImp := of_bytes (bytes := [0x98]) rfl rfl
theorem adcImm (v : Byte) : Statement (.adcImm v) :=
  of_bytes (bytes := [0x69, v]) rfl rfl
theorem adcZp0 (ll : Byte) : Statement (.adcZp0 ll) :=
  of_bytes (bytes := [0x65, ll]) rfl rfl
theorem adcZpx (ll : Byte) : Statement (.adcZpx ll) :=
  of_bytes (bytes := [0x75, ll]) rfl rfl
theorem adcAbs (addr : Word) : Statement (.adcAbs addr) :=
  of_word (c := .adcAbs) (op := 0x6D) rfl fun _ _ => rfl
theorem adcAbx (addr : Word) : Statement (.adcAbx addr) :=
  of_word (c := .adcAbx) (op := 0x7D) rfl fun _ _ => rfl
theorem adcAby (addr : Word) : Statement (.adcAby addr) :=
  of_word (c := .adcAby) (op := 0x79) rfl fun _ _ => rfl
theorem adcIzx (ll : Byte) : Statement (.adcIzx ll) :=
  of_bytes (bytes := [0x61, ll]) rfl rfl
theorem adcIzy (ll : Byte) : Statement (.adcIzy ll) :=
  of_bytes (bytes := [0x71, ll]) rfl rfl
theorem sbcImm (v : Byte) : Statement (.sbcImm v) :=
  of_bytes (bytes := [0xE9, v]) rfl rfl
theorem sbcZp0 (ll : Byte) : Statement (.sbcZp0 ll) :=
  of_bytes (bytes := [0xE5, ll]) rfl rfl
theorem sbcZpx (ll : Byte) : Statement (.sbcZpx ll) :=
  of_bytes (bytes := [0xF5, ll]) rfl rfl
theorem sbcAbs (addr : Word) : Statement (.sbcAbs addr) :=
  of_word (c := .sbcAbs) (op := 0xED) rfl fun _ _ => rfl
theorem sbcAbx (addr : Word) : Statement (.sbcAbx addr) :=
  of_word (c := .sbcAbx) (op := 0xFD) rfl fun _ _ => rfl
theorem sbcAby (addr : Word) : Statement (.sbcAby addr) :=
  of_word (c := .sbcAby) (op := 0xF9) rfl fun _ _ => rfl
theorem sbcIzx (ll : Byte) : Statement (.sbcIzx ll) :=
  of_bytes (bytes := [0xE1, ll]) rfl rfl
theorem sbcIzy (ll : Byte) : Statement (.sbcIzy ll) :=
  of_bytes (bytes := [0xF1, ll]) rfl rfl
theorem andImm (v : Byte) : Statement (.andImm v) :=
  of_bytes (bytes := [0x29, v]) rfl rfl
theorem andZp0 (ll : Byte) : Statement (.andZp0 ll) :=
  of_bytes (bytes := [0x25, ll]) rfl rfl
theorem andZpx (ll : Byte) : Statement (.andZpx ll) :=
  of_bytes (bytes := [0x35, ll]) rfl rfl
theorem andAbs (addr : Word) : Statement (.andAbs addr) :=
  of_word (c := .andAbs) (op := 0x2D) rfl fun _ _ => rfl
theorem andAbx (addr : Word) : Statement (.andAbx addr) :=
  of_word (c := .andAbx) (op := 0x3D) rfl fun _ _ => rfl
theorem andAby (addr : Word) : Statement (.andAby addr) :=
  of_word (c := .andAby) (op := 0x39) rfl fun _ _ => rfl
theorem andIzx (ll : Byte) : Statement (.andIzx ll) :=
  of_bytes (bytes := [0x21, ll]) rfl rfl
theorem andIzy (ll : Byte) : Statement (.andIzy ll) :=
  of_bytes (bytes := [0x31, ll]) rfl rfl
theorem oraImm (v : Byte) : Statement (.oraImm v) :=
  of_bytes (bytes := [0x09, v]) rfl rfl
theorem oraZp0 (ll : Byte) : Statement (.oraZp0 ll) :=
  of_bytes (bytes := [0x05, ll]) rfl rfl
theorem oraZpx (ll : Byte) : Statement (.oraZpx ll) :=
  of_bytes (bytes := [0x15, ll]) rfl rfl
theorem oraAbs (addr : Word) : Statement (.oraAbs addr) :=
  of_word (c := .oraAbs) (op := 0x0D) rfl fun _ _ => rfl
theorem oraAbx (addr : Word) : Statement (.oraAbx addr) :=
  of_word (c := .oraAbx) (op := 0x1D) rfl fun _ _ => rfl
theorem oraAby (addr : Word) : Statement (.oraAby addr) :=
  of_word (c := .oraAby) (op := 0x19) rfl fun _ _ => rfl
theorem oraIzx (ll : Byte) : Statement (.oraIzx ll) :=
  of_bytes (bytes := [0x01, ll]) rfl rfl
theorem oraIzy (ll : Byte) : Statement (.oraIzy ll) :=
  of_bytes (bytes := [0x11, ll]) rfl rfl
theorem eorImm (v : Byte) : Statement (.eorImm v) :=
  of_bytes (bytes := [0x49, v]) rfl rfl
theorem eorZp0 (ll : Byte) : Statement (.eorZp0 ll) :=
  of_bytes (bytes := [0x45, ll]) rfl rfl
theorem eorZpx (ll : Byte) : Statement (.eorZpx ll) :=
  of_bytes (bytes := [0x55, ll]) rfl rfl
theorem eorAbs (addr : Word) : Statement (.eorAbs addr) :=
  of_word (c := .eorAbs) (op := 0x4D) rfl fun _ _ => rfl
theorem eorAbx (addr : Word) : Statement (.eorAbx addr) :=
  of_word (c := .eorAbx) (op := 0x5D) rfl fun _ _ => rfl
theorem eorAby (addr : Word) : Statement (.eorAby addr) :=
  of_word (c := .eorAby) (op := 0x59) rfl fun _ _ => rfl
theorem eorIzx (ll : Byte) : Statement (.eorIzx ll) :=
  of_bytes (bytes := [0x41, ll]) rfl rfl
theorem eorIzy (ll : Byte) : Statement (.eorIzy ll) :=
  of_bytes (bytes := [0x51, ll]) rfl rfl
theorem bitZp0 (ll : Byte) : Statement (.bitZp0 ll) :=
  of_bytes (bytes := [0x24, ll]) rfl rfl
theorem bitAbs (addr : Word) : Statement (.bitAbs addr) :=
  of_word (c := .bitAbs) (op := 0x2C) rfl fun _ _ => rfl
theorem cmpImm (v : Byte) : Statement (.cmpImm v) :=
  of_bytes (bytes := [0xC9, v]) rfl rfl
theorem cmpZp0 (ll : Byte) : Statement (.cmpZp0 ll) :=
  of_bytes (bytes := [0xC5, ll]) rfl rfl
theorem cmpZpx (ll : Byte) : Statement (.cmpZpx ll) :=
  of_bytes (bytes := [0xD5, ll]) rfl rfl
theorem cmpAbs (addr : Word) : Statement (.cmpAbs addr) :=
  of_word (c := .cmpAbs) (op := 0xCD) rfl fun _ _ => rfl
theorem cmpAbx (addr : Word) : Statement (.cmpAbx addr) :=
  of_word (c := .cmpAbx) (op := 0xDD) rfl fun _ _ => rfl
theorem cmpAby (addr : Word) : Statement (.cmpAby addr) :=
  of_word (c := .cmpAby) (op := 0xD9) rfl fun _ _ => rfl
theorem cmpIzx (ll : Byte) : Statement (.cmpIzx ll) :=
  of_bytes (bytes := [0xC1, ll]) rfl rfl
theorem cmpIzy (ll : Byte) : Statement (.cmpIzy ll) :=
  of_bytes (bytes := [0xD1, ll]) rfl rfl
theorem cpxImm (v : Byte) : Statement (.cpxImm v) :=
  of_bytes (bytes := [0xE0, v]) rfl rfl
theorem cpxZp0 (ll : Byte) : Statement (.cpxZp0 ll) :=
  of_bytes (bytes := [0xE4, ll]) rfl rfl
theorem cpxAbs (addr : Word) : Statement (.cpxAbs addr) :=
  of_word (c := .cpxAbs) (op := 0xEC) rfl fun _ _ => rfl
theorem cpyImm (v : Byte) : Statement (.cpyImm v) :=
  of_bytes (bytes := [0xC0, v]) rfl rfl
theorem cpyZp0 (ll : Byte) : Statement (.cpyZp0 ll) :=
  of_bytes (bytes := [0xC4, ll]) rfl rfl
theorem cpyAbs (addr : Word) : Statement (.cpyAbs addr) :=
  of_word (c := .cpyAbs) (op := 0xCC) rfl fun _ _ => rfl
theorem incZp0 (ll : Byte) : Statement (.incZp0 ll) :=
  of_bytes (bytes := [0xE6, ll]) rfl rfl
theorem incZpx (ll : Byte) : Statement (.incZpx ll) :=
  of_bytes (bytes := [0xF6, ll]) rfl rfl
theorem incAbs (addr : Word) : Statement (.incAbs addr) :=
  of_word (c := .incAbs) (op := 0xEE) rfl fun _ _ => rfl
theorem incAbx (addr : Word) : Statement (.incAbx addr) :=
  of_word (c := .incAbx) (op := 0xFE) rfl fun _ _ => rfl
theorem inxImp : Statement .inxImp := of_bytes (bytes := [0xE8]) rfl rfl
theorem inyImp : Statement .inyImp := of_bytes (bytes := [0xC8]) rfl rfl
theorem decZp0 (ll : Byte) : Statement (.decZp0 ll) :=
  of_bytes (bytes := [0xC6, ll]) rfl rfl
theorem decZpx (ll : Byte) : Statement (.decZpx ll) :=
  of_bytes (bytes := [0xD6, ll]) rfl rfl
theorem decAbs (addr : Word) : Statement (.decAbs addr) :=
  of_word (c := .decAbs) (op := 0xCE) rfl fun _ _ => rfl
theorem decAbx (addr : Word) : Statement (.decAbx addr) :=
  of_word (c := .decAbx) (op := 0xDE) rfl fun _ _ => rfl
theorem dexImp : Statement .dexImp := of_bytes (bytes := [0xCA]) rfl rfl
theorem deyImp : Statement .deyImp := of_bytes (bytes := [0x88]) rfl rfl
theorem aslImp : Statement .aslImp := of_bytes (bytes := [0x0A]) rfl rfl
theorem aslZp0 (ll : Byte) : Statement (.aslZp0 ll) :=
  of_bytes (bytes := [0x06, ll]) rfl rfl
theorem aslZpx (ll : Byte) : Statement (.aslZpx ll) :=
  of_bytes (bytes := [0x16, ll]) rfl rfl
theorem aslAbs (addr : Word) : Statement (.aslAbs addr) :=
  of_word (c := .aslAbs) (op := 0x0E) rfl fun _ _ => rfl
theorem aslAbx (addr : Word) : Statement (.aslAbx addr) :=
  of_word (c := .aslAbx) (op := 0x1E) rfl fun _ _ => rfl
theorem lsrImp : Statement .lsrImp := of_bytes (bytes := [0x4A]) rfl rfl
theorem lsrZp0 (ll : Byte) : Statement (.lsrZp0 ll) :=
  of_bytes (bytes := [0x46, ll]) rfl rfl
theorem lsrZpx (ll : Byte) : Statement (.lsrZpx ll) :=
  of_bytes (bytes := [0x56, ll]) rfl rfl
theorem lsrAbs (addr : Word) : Statement (.lsrAbs addr) :=
  of_word (c := .lsrAbs) (op := 0x4E) rfl fun _ _ => rfl
theorem lsrAbx (addr : Word) : Statement (.lsrAbx addr) :=
  of_word (c := .lsrAbx) (op := 0x5E) rfl fun _ _ => rfl
theorem rolImp : Statement .rolImp := of_bytes (bytes := [0x2A]) rfl rfl
theorem rolZp0 (ll : Byte) : Statement (.rolZp0 ll) :=
  of_bytes (bytes := [0x26, ll]) rfl rfl
theorem rolZpx (ll : Byte) : Statement (.rolZpx ll) :=
  of_bytes (bytes := [0x36, ll]) rfl rfl
theorem rolAbs (addr : Word) : Statement (.rolAbs addr) :=
  of_word (c := .rolAbs) (op := 0x2E) rfl fun _ _ => rfl
theorem rolAbx (addr : Word) : Statement (.rolAbx addr) :=
  of_word (c := .rolAbx) (op := 0x3E) rfl fun _ _ => rfl
theorem rorImp : Statement .rorImp := of_bytes (bytes := [0x6A]) rfl rfl
theorem rorZp0 (ll : Byte) : Statement (.rorZp0 ll) :=
  of_bytes (bytes := [0x66, ll]) rfl rfl
theorem rorZpx (ll : Byte) : Statement (.rorZpx ll) :=
  of_bytes (bytes := [0x76, ll]) rfl rfl
theorem rorAbs (addr : Word) : Statement (.rorAbs addr) :=
  of_word (c := .rorAbs) (op := 0x6E) rfl fun _ _ => rfl
theorem rorAbx (addr : Word) : Statement (.rorAbx addr) :=
  of_word (c := .rorAbx) (op := 0x7E) rfl fun _ _ => rfl
theorem bccRel (rr : Byte) : Statement (.bccRel rr) :=
  of_bytes (bytes := [0x90, rr]) rfl rfl
theorem bcsRel (rr : Byte) : Statement (.bcsRel rr) :=
  of_bytes (bytes := [0xB0, rr]) rfl rfl
theorem beqRel (rr : Byte) : Statement (.beqRel rr) :=
  of_bytes (bytes := [0xF0, rr]) rfl rfl
theorem bmiRel (rr : Byte) : Statement (.bmiRel rr) :=
  of_bytes (bytes := [0x30, rr]) rfl rfl
theorem bneRel (rr : Byte) : Statement (.bneRel rr) :=
  of_bytes (bytes := [0xD0, rr]) rfl rfl
theorem bplRel (rr : Byte) : Statement (.bplRel rr) :=
  of_bytes (bytes := [0x10, rr]) rfl rfl
theorem bvcRel (rr : Byte) : Statement (.bvcRel rr) :=
  of_bytes (bytes := [0x50, rr]) rfl rfl
theorem bvsRel (rr : Byte) : Statement (.bvsRel rr) :=
  of_bytes (bytes := [0x70, rr]) rfl rfl
theorem jmpAbs (addr : Word) : Statement (.jmpAbs addr) :=
  of_word (c := .jmpAbs) (op := 0x4C) rfl fun _ _ => rfl
theorem jmpInd (ptr : Word) : Statement (.jmpInd ptr) :=
  of_word (c := .jmpInd) (op := 0x6C) rfl fun _ _ => rfl
theorem jsrAbs (addr : Word) : Statement (.jsrAbs addr) :=
  of_word (c := .jsrAbs) (op := 0x20) rfl fun _ _ => rfl
theorem rtsImp : Statement .rtsImp := of_bytes (bytes := [0x60]) rfl rfl
theorem phaImp : Statement .phaImp := of_bytes (bytes := [0x48]) rfl rfl
theorem phpImp : Statement .phpImp := of_bytes (bytes := [0x08]) rfl rfl
theorem plaImp : Statement .plaImp := of_bytes (bytes := [0x68]) rfl rfl
theorem plpImp : Statement .plpImp := of_bytes (bytes := [0x28]) rfl rfl
theorem clcImp : Statement .clcImp := of_bytes (bytes := [0x18]) rfl rfl
theorem cldImp : Statement .cldImp := of_bytes (bytes := [0xD8]) rfl rfl
theorem cliImp : Statement .cliImp := of_bytes (bytes := [0x58]) rfl rfl
theorem clvImp : Statement .clvImp := of_bytes (bytes := [0xB8]) rfl rfl
theorem secImp : Statement .secImp := of_bytes (bytes := [0x38]) rfl rfl
theorem sedImp : Statement .sedImp := of_bytes (bytes := [0xF8]) rfl rfl
theorem seiImp : Statement .seiImp := of_bytes (bytes := [0x78]) rfl rfl
theorem brkImp : Statement .brkImp := of_bytes (bytes := [0x00]) rfl rfl
theorem rtiImp : Statement .rtiImp := of_bytes (bytes := [0x40]) rfl rfl
theorem nopImp : Statement .nopImp := of_bytes (bytes := [0xEA]) rfl rfl
theorem ill02 : Statement .ill02 := of_bytes (bytes := [0x02]) rfl rfl
theorem ill03 : Statement .ill03 := of_bytes (bytes := [0x03]) rfl rfl
theorem ill04 : Statement .ill04 := of_bytes (bytes := [0x04]) rfl rfl
theorem ill07 : Statement .ill07 := of_bytes (bytes := [0x07]) rfl rfl
theorem ill0B : Statement .ill0B := of_bytes (bytes := [0x0B]) rfl rfl
theorem ill0C : Statement .ill0C := of_bytes (bytes := [0x0C]) rfl rfl
theorem ill0F : Statement .ill0F := of_bytes (bytes := [0x0F]) rfl rfl
theorem ill12 : Statement .ill12 := of_bytes (bytes := [0x12]) rfl rfl
theorem ill13 : Statement .ill13 := of_bytes (bytes := [0x13]) rfl rfl
theorem ill14 : Statement .ill14 := of_bytes (bytes := [0x14]) rfl rfl
theorem ill17 : Statement .ill17 := of_bytes (bytes := [0x17]) rfl rfl
theorem ill1A : Statement .ill1A := of_bytes (bytes := [0x1A]) rfl rfl
theorem ill1B : Statement .ill1B := of_bytes (bytes := [0x1B]) rfl rfl
theorem ill1C : Statement .ill1C := of_bytes (bytes := [0x1C]) rfl rfl
theorem ill1F : Statement .ill1F := of_bytes (bytes := [0x1F]) rfl rfl
theorem ill22 : Statement .ill22 := of_bytes (bytes := [0x22]) rfl rfl
theorem ill23 : Statement .ill23 := of_bytes (bytes := [0x23]) rfl rfl
theorem ill27 : Statement .ill27 := of_bytes (bytes := [0x27]) rfl rfl
theorem ill2B : Statement .ill2B := of_bytes (bytes := [0x2B]) rfl rfl
theorem ill2F : Statement .ill2F := of_bytes (bytes := [0x2F]) rfl rfl
theorem ill32 : Statement .ill32 := of_bytes (bytes := [0x32]) rfl rfl
theorem ill33 : Statement .ill33 := of_bytes (bytes := [0x33]) rfl rfl
theorem ill34 : Statement .ill34 := of_bytes (bytes := [0x34]) rfl rfl
theorem ill37 : Statement .ill37 := of_bytes (bytes := [0x37]) rfl rfl
theorem ill3A : Statement .ill3A := of_bytes (bytes := [0x3A]) rfl rfl
theorem ill3B : Statement .ill3B := of_bytes (bytes := [0x3B]) rfl rfl
theorem ill3C : Statement .ill3C := of_bytes (bytes := [0x3C]) rfl rfl
theorem ill3F : Statement .ill3F := of_bytes (bytes := [0x3F]) rfl rfl
theorem ill42 : Statement .ill42 := of_bytes (bytes := [0x42]) rfl rfl
theorem ill43 : Statement .ill43 := of_bytes (bytes := [0x43]) rfl rfl
theorem ill44 : Statement .ill44 := of_bytes (bytes := [0x44]) rfl rfl
theorem ill47 : Statement .ill47 := of_bytes (bytes := [0x47]) rfl rfl
theorem ill4B : Statement .ill4B := of_bytes (bytes := [0x4B]) rfl rfl
theorem ill4F : Statement .ill4F := of_bytes (bytes := [0x4F]) rfl rfl
theorem ill52 : Statement .ill52 := of_bytes (bytes := [0x52]) rfl rfl
theorem ill53 : Statement .ill53 := of_bytes (bytes := [0x53]) rfl rfl
theorem ill54 : Statement .ill54 := of_bytes (bytes := [0x54]) rfl rfl
theorem ill57 : Statement .ill57 := of_bytes (bytes := [0x57]) rfl rfl
theorem ill5A : Statement .ill5A := of_bytes (bytes := [0x5A]) rfl rfl
theorem ill5B : Statement .ill5B := of_bytes (bytes := [0x5B]) rfl rfl
theorem ill5C : Statement .ill5C := of_bytes (bytes := [0x5C]) rfl rfl
theorem ill5F : Statement .ill5F := of_bytes (bytes := [0x5F]) rfl rfl
theorem ill62 : Statement .ill62 := of_bytes (bytes := [0x62]) rfl rfl
theorem ill63 : Statement .ill63 := of_bytes (bytes := [0x63]) rfl rfl
theorem ill64 : Statement .ill64 := of_bytes (bytes := [0x64]) rfl rfl
theorem ill67 : Statement .ill67 := of_bytes (bytes := [0x67]) rfl rfl
theorem ill6B : Statement .ill6B := of_bytes (bytes := [0x6B]) rfl rfl
theorem ill6F : Statement .ill6F := of_bytes (bytes := [0x6F]) rfl rfl
theorem ill72 : Statement .ill72 := of_bytes (bytes := [0x72]) rfl rfl
theorem ill73 : Statement .ill73 := of_bytes (bytes := [0x73]) rfl rfl
theorem ill74 : Statement .ill74 := of_bytes (bytes := [0x74]) rfl rfl
theorem ill77 : Statement .ill77 := of_bytes (bytes := [0x77]) rfl rfl
theorem ill7A : Statement .ill7A := of_bytes (bytes := [0x7A]) rfl rfl
theorem ill7B : Statement .ill7B := of_bytes (bytes := [0x7B]) rfl rfl
theorem ill7C : Statement .ill7C := of_bytes (bytes := [0x7C]) rfl rfl
theorem ill7F : Statement .ill7F := of_bytes (bytes := [0x7F]) rfl rfl
theorem ill80 : Statement .ill80 := of_bytes (bytes := [0x80]) rfl rfl
theorem ill82 : Statement .ill82 := of_bytes (bytes := [0x82]) rfl rfl
theorem ill83 : Statement .ill83 := of_bytes (bytes := [0x83]) rfl rfl
theorem ill87 : Statement .ill87 := of_bytes (bytes := [0x87]) rfl rfl
theorem ill89 : Statement .ill89 := of_bytes (bytes := [0x89]) rfl rfl
theorem ill8B : Statement .ill8B := of_bytes (bytes := [0x8B]) rfl rfl
theorem ill8F : Statement .ill8F := of_bytes (bytes := [0x8F]) rfl rfl
theorem ill92 : Statement .ill92 := of_bytes (bytes := [0x92]) rfl rfl
theorem ill93 : Statement .ill93 := of_bytes (bytes := [0x93]) rfl rfl
theorem ill97 : Statement .ill97 := of_bytes (bytes := [0x97]) rfl rfl
theorem ill9B : Statement .ill9B := of_bytes (bytes := [0x9B]) rfl rfl
theorem ill9C : Statement .ill9C := of_bytes (bytes := [0x9C]) rfl rfl
theorem ill9E : Statement .ill9E := of_bytes (bytes := [0x9E]) rfl rfl
theorem ill9F : Statement .ill9F := of_bytes (bytes := [0x9F]) rfl rfl
theorem illA3 : Statement .illA3 := of_bytes (bytes := [0xA3]) rfl rfl
theorem illA7 : Statement .illA7 := of_bytes (bytes := [0xA7]) rfl rfl
theorem illAB : Statement .illAB := of_bytes (bytes := [0xAB]) rfl rfl
theorem illAF : Statement .illAF := of_bytes (bytes := [0xAF]) rfl rfl
theorem illB2 : Statement .illB2 := of_bytes (bytes := [0xB2]) rfl rfl
theorem illB3 : Statement .illB3 := of_bytes (bytes := [0xB3]) rfl rfl
theorem illB7 : Statement .illB7 := of_bytes (bytes := [0xB7]) rfl rfl
theorem illBB : Statement .illBB := of_bytes (bytes := [0xBB]) rfl rfl
theorem illBF : Statement .illBF := of_bytes (bytes := [0xBF]) rfl rfl
theorem illC2 : Statement .illC2 := of_bytes (bytes := [0xC2]) rfl rfl
theorem illC3 : Statement .illC3 := of_bytes (bytes := [0xC3]) rfl rfl
theorem illC7 : Statement .illC7 := of_bytes (bytes := [0xC7]) rfl rfl
theorem illCB : Statement .illCB := of_bytes (bytes := [0xCB]) rfl rfl
theorem illCF : Statement .illCF := of_bytes (bytes := [0xCF]) rfl rfl
theorem illD2 : Statement .illD2 := of_bytes (bytes := [0xD2]) rfl rfl
theorem illD3 : Statement .illD3 := of_bytes (bytes := [0xD3]) rfl rfl
theorem illD4 : Statement .illD4 := of_bytes (bytes := [0xD4]) rfl rfl
theorem illD7 : Statement .illD7 := of_bytes (bytes := [0xD7]) rfl rfl
theorem illDA : Statement .illDA := of_bytes (bytes := [0xDA]) rfl rfl
theorem illDB : Statement .illDB := of_bytes (bytes := [0xDB]) rfl rfl
theorem illDC : Statement .illDC := of_bytes (bytes := [0xDC]) rfl rfl
theorem illDF : Statement .illDF := of_bytes (bytes := [0xDF]) rfl rfl
theorem illE2 : Statement .illE2 := of_bytes (bytes := [0xE2]) rfl rfl
theorem illE3 : Statement .illE3 := of_bytes (bytes := [0xE3]) rfl rfl
theorem illE7 : Statement .illE7 := of_bytes (bytes := [0xE7]) rfl rfl
theorem illEB : Statement .illEB := of_bytes (bytes := [0xEB]) rfl rfl
theorem illEF : Statement .illEF := of_bytes (bytes := [0xEF]) rfl rfl
theorem illF2 : Statement .illF2 := of_bytes (bytes := [0xF2]) rfl rfl
theorem illF3 : Statement .illF3 := of_bytes (bytes := [0xF3]) rfl rfl
theorem illF4 : Statement .illF4 := of_bytes (bytes := [0xF4]) rfl rfl
theorem illF7 : Statement .illF7 := of_bytes (bytes := [0xF7]) rfl rfl
theorem illFA : Statement .illFA := of_bytes (bytes := [0xFA]) rfl rfl
theorem illFB : Statement .illFB := of_bytes (bytes := [0xFB]) rfl rfl
theorem illFC : Statement .illFC := of_bytes (bytes := [0xFC]) rfl rfl
theorem illFF : Statement .illFF := of_bytes (bytes := [0xFF]) rfl rfl

end Sys2Proof.Laws.RoundTrip
end

