-- ==== Sys2Proof/Laws/Ready.lean ====
section
/-! SUPPORT. When the bus answers, nothing stops: each shared operation completes, hence each opcode routine,
hence the meaning of every instruction. -/

namespace Sys2Proof.Machine

theorem operand_ready {s : State} (h : busReady s = true) (f : Form) :
    ∃ v, operand f s = .ok ({ s with fetched := v }, v) := by
  cases f
  case imp => exact ⟨s.fetched, rfl⟩
  case imm v => exact ⟨v, rfl⟩
  all_goals
    unfold operand
    simp only [memRead_ready h]
    exact ⟨_, rfl⟩

theorem fetchForm_ready {s : State} (h : busReady s = true) (m : Mode) : ∃ f, fetchForm m s = .ok f := by
  cases m <;> simp only [fetchForm, memRead_ready h, read16_ready h] <;> exact ⟨_, rfl⟩

theorem writeBack_completes {s : State} (h : busReady s = true) (f : Form) (v : Byte) :
    ∃ t, writeBack f v s = .ok t := by
  cases f
  case imp => exact ⟨_, rfl⟩
  all_goals exact ⟨_, memWrite_ready h s.addrAbs v⟩

/-- Every documented routine completes. -/
theorem routine_ready {s : State} (h : busReady s = true) (m : Mnemonic) (mode : Mode) (f : Form) :
    ∃ e, routineOf (entry m mode 0) f s = .ok e := by
  obtain ⟨v, ho⟩ := operand_ready h f
  have hf : ∀ v, busReady { s with fetched := v } = true := fun _ => h
  cases m
  case LDA => exact ⟨_, by simp only [routineOf, entry, opLda, ho]; rfl⟩
  case LDX => exact ⟨_, by simp only [routineOf, entry, opLdx, ho]; rfl⟩
  case LDY => exact ⟨_, by simp only [routineOf, entry, opLdy, ho]; rfl⟩
  case ADC => exact ⟨_, by simp only [routineOf, entry, opAdc, ho]; rfl⟩
  case SBC => exact ⟨_, by simp only [routineOf, entry, opSbc, ho]; rfl⟩
  case AND => exact ⟨_, by simp only [routineOf, entry, opAnd, ho]; rfl⟩
  case ORA => exact ⟨_, by simp only [routineOf, entry, opOra, ho]; rfl⟩
  case EOR => exact ⟨_, by simp only [routineOf, entry, opEor, ho]; rfl⟩
  case BIT => exact ⟨_, by simp only [routineOf, entry, opBit, ho]; rfl⟩
  case CMP => exact ⟨_, by simp only [routineOf, entry, opCmp, ho]; rfl⟩
  case CPX => exact ⟨_, by simp only [routineOf, entry, opCpx, ho]; rfl⟩
  case CPY => exact ⟨_, by simp only [routineOf, entry, opCpy, ho]; rfl⟩
  case STA => exact ⟨_, by simp only [routineOf, entry, opSta, memWrite_ready h]; rfl⟩
  case STX => exact ⟨_, by simp only [routineOf, entry, opStx, memWrite_ready h]; rfl⟩
  case STY => exact ⟨_, by simp only [routineOf, entry, opSty, memWrite_ready h]; rfl⟩
  case INC =>
    simp only [routineOf, entry, opInc, ho, bind, Except.bind]
    rw [memWrite_ready (hf v)]
    exact ⟨_, rfl⟩
  case DEC =>
    simp only [routineOf, entry, opDec, ho, bind, Except.bind]
    rw [memWrite_ready (hf v)]
    exact ⟨_, rfl⟩
  case ASL | LSR | ROL | ROR =>
    simp only [routineOf, entry, opAsl, opLsr, opRol, opRor, shiftBy, ho, bind, Except.bind]
    obtain ⟨t, ht⟩ := writeBack_completes (s := (State.setFlag { s with fetched := v } .C _).setZN _) h f _
    rw [ht]
    exact ⟨_, rfl⟩
  case BCC | BCS | BEQ | BMI | BNE | BPL | BVC | BVS =>
    simp only [routineOf, entry, opBcc, opBcs, opBeq, opBmi, opBne, opBpl, opBvc, opBvs, branch]
    split <;> exact ⟨_, rfl⟩
  case JSR => exact ⟨_, by simp only [routineOf, entry, opJsr, pushWord_eq h]; rfl⟩
  case RTS => exact ⟨_, by simp only [routineOf, entry, opRts, pullWord_eq h]; rfl⟩
  case PHA => exact ⟨_, by simp only [routineOf, entry, opPha, push_eq h]; rfl⟩
  case PHP => exact ⟨_, by simp only [routineOf, entry, opPhp, push_eq h]; rfl⟩
  case PLA => exact ⟨_, by simp only [routineOf, entry, opPla, pull_eq h]; rfl⟩
  case PLP => exact ⟨_, by simp only [routineOf, entry, opPlp, pull_eq h]; rfl⟩
  case BRK =>
    exact ⟨_, by
      simp only [routineOf, entry, opBrk]
      rw [takeException_eq h true _ irqVector (by decide) (by decide)]
      rfl⟩
  case RTI => exact ⟨_, by simp only [routineOf, entry, opRti, returnFromException_eq h]; rfl⟩
  all_goals exact ⟨_, rfl⟩

/-- A stub when the bus answers: the tick of its entry. -/
theorem stub_ready {s : State} (h : busReady s = true) (op : Byte) (n : Nat) (r : StubRoutine) :
    ∃ f a c, fetchForm (illegalEntry s.cfg op n r).mode (afterOpcode op s) = .ok f ∧
      effectiveAddress f (afterOpcode op s) = .ok (a, c) ∧
      stub op n r s = .next (finish (illegalEntry s.cfg op n r).baseCycles c
        { state := resolved f (afterOpcode op s) a
          opcodeExtra := stubExtra (illegalEntry s.cfg op n r).routine op (illegalEntry s.cfg op n r).mode
          branchExtra := 0 }) := by
  obtain ⟨f, hf⟩ := fetchForm_ready (s := afterOpcode op s) h (illegalEntry s.cfg op n r).mode
  obtain ⟨a, c, ha⟩ := effectiveAddress_ready (s := afterOpcode op s) h f
  refine ⟨f, a, c, hf, ha, ?_⟩
  simp only [stub, hf, bind, Except.bind]
  rw [tick_eq ha]
  rfl

/-- WHEN THE BUS ANSWERS, EVERY INSTRUCTION COMPLETES. -/
theorem exec_ready {s : State} (h : busReady s = true) (i : Instr) : ∃ t, exec i s = .next t := by
  rcases instr_cases i with ⟨m, f, ha⟩ | ⟨x, hs, -, -⟩
  · obtain ⟨a, c, hA, -, -, hx⟩ := exec_of_assemble_ready ha h
    obtain ⟨e, he⟩ := routine_ready (s := resolved f (afterOpcode (opcodeOf i) s) a) h m (modeOf f) f
    exact ⟨_, hx e he⟩
  · obtain ⟨f, a, c, -, -, h⟩ := stub_ready h (opcodeOf i) (baseCyclesOf i) x
    exact ⟨_, (hs s).trans h⟩

end Sys2Proof.Machine
end

