-- ==== Sys2Proof/Tests/Slice0.lean ====
section
/-! SUPPORT. The tests of the model and the witnesses of the statements' hypotheses. The expected results
come from the vectors of 95_test_vectors (named V1 to V16 there) and from the tables of 30_encoding R114
and R115, or are worked by hand from the rule named. -/

open Sys2Proof Sys2Proof.Machine

namespace Sys2Proof.Tests

/-! ### Helpers -/

/-- A header with these bank counts, mapper 0. -/
def header (prgBanks chrBanks : Byte) : Header where
  name := (0x4E, 0x45, 0x53)
  prgBanks := prgBanks
  chrBanks := chrBanks
  mapperOne := 0
  mapperTwo := 0
  prgRamSize := 0
  tvSystem := (0, 0)

/-- The state of the vectors of 95_test_vectors with these bytes at `pc`, an address from 0x8000 on: one
program bank, nothing pending. -/
def startAt (pc : Word) (bytes : List Byte) : State :=
  { State.reset with
    pc := pc
    cycles := 0
    cart := some { header := header 1 1, prg := Memory.ofBytes (pc.toNat % 16384) bytes, chr := [] } }

/-- The same at 0x8000. -/
def start (bytes : List Byte) : State := startAt 0x8000 bytes

/-- A step that completes, in a state that passes the check. -/
def after (o : Host.Outcome State Fault Refusal) (check : State → Bool) : Bool :=
  match o with
  | .next t => check t
  | .fault _ => false
  | .refused _ => false

/-- A step that ends in this fault. -/
def faults (o : Host.Outcome State Fault Refusal) (f : Fault) : Bool :=
  match o with
  | .next _ => false
  | .fault g => decide (g = f)
  | .refused _ => false

/-- Address `a` reads `v`. -/
def reads (s : State) (a : Word) (v : Byte) : Bool :=
  match busRead s a true with
  | .ok u => u == v
  | .error _ => false

/-- A, X, Y, SP, P, PC and the pending cycles. -/
def regs (s : State) (a x y sp p : Byte) (pc : Word) (cycles : Nat) : Bool :=
  s.a == a && s.x == x && s.y == y && s.sp == sp && s.p == p && s.pc == pc && s.cycles == cycles

/-! ### Well-formedness: each check refuses an ill-formed term -/

/-- An assembly line whose mode the table does not give the mnemonic (30_encoding R114, R120). -/
theorem test_ill_formed_lines_are_refused :
    wellFormed .STA (.imm 0x01) = false ∧ wellFormed .JMP (.zp0 0x10) = false ∧
    wellFormed .LDX (.zpx 0x10) = false ∧ wellFormed .STY (.zpy 0x10) = false ∧
    wellFormed .TAX (.zp0 0x00) = false ∧ wellFormed .BNE (.abs 0x8000) = false ∧
    wellFormed .INC .imp = false ∧ wellFormed .CPX (.izy 0x20) = false ∧
    wellFormed .JSR (.ind 0x1234) = false ∧ wellFormed .BRK (.imm 0x00) = false := by decide

theorem test_well_formed_lines_are_accepted :
    assemble .STX (.zpy 0x12) = some (.stxZpy 0x12) ∧ assemble .JMP (.ind 0x30FF) = some (.jmpInd 0x30FF) ∧
    assemble .ASL .imp = some .aslImp ∧ assemble .BNE (.rel 0xFA) = some (.bneRel 0xFA) ∧
    assemble .LDA (.izy 0x20) = some (.ldaIzy 0x20) := ⟨rfl, rfl, rfl, rfl, rfl⟩

/-- A cartridge needs a program bank (D12), canonical images, and images within their lengths (10_state R42,
R43). -/
theorem test_ill_formed_cartridges_are_refused :
    Cartridge.wf { header := header 0 1, prg := [], chr := [] } = false ∧
    Cartridge.wf { header := header 1 1, prg := [(3, 0)], chr := [] } = false ∧
    Cartridge.wf { header := header 1 1, prg := [(3, 1), (3, 1)], chr := [] } = false ∧
    Cartridge.wf { header := header 1 1, prg := [(16384, 1)], chr := [] } = false ∧
    Cartridge.wf { header := header 1 1, prg := [], chr := [(1, 0)] } = false ∧
    Cartridge.wf { header := header 1 1, prg := [], chr := [(8192, 1)] } = false := by decide

theorem test_well_formed_cartridges_are_accepted :
    Cartridge.wf { header := header 1 0, prg := [(16383, 1)], chr := [(8191, 1)] } = true ∧
    Cartridge.wf { header := header 2 2, prg := [(32767, 1)], chr := [(16383, 1)] } = true := by decide

/-! ### Decoding: every opcode byte, the rows of the matrix of 30_encoding R114 and R115. Operand bytes 0x34
and 0x12 follow. -/

theorem test_decode_row_0 :
    decode [0x00] = .ok (.brkImp, []) ∧
    decode [0x01, 0x34] = .ok (.oraIzx 0x34, []) ∧
    decode [0x02] = .ok (.ill02, []) ∧
    decode [0x03] = .ok (.ill03, []) ∧
    decode [0x04] = .ok (.ill04, []) ∧
    decode [0x05, 0x34] = .ok (.oraZp0 0x34, []) ∧
    decode [0x06, 0x34] = .ok (.aslZp0 0x34, []) ∧
    decode [0x07] = .ok (.ill07, []) ∧
    decode [0x08] = .ok (.phpImp, []) ∧
    decode [0x09, 0x34] = .ok (.oraImm 0x34, []) ∧
    decode [0x0A] = .ok (.aslImp, []) ∧
    decode [0x0B] = .ok (.ill0B, []) ∧
    decode [0x0C] = .ok (.ill0C, []) ∧
    decode [0x0D, 0x34, 0x12] = .ok (.oraAbs 0x1234, []) ∧
    decode [0x0E, 0x34, 0x12] = .ok (.aslAbs 0x1234, []) ∧
    decode [0x0F] = .ok (.ill0F, []) :=
  ⟨rfl, rfl, rfl, rfl, rfl, rfl, rfl, rfl, rfl, rfl, rfl, rfl, rfl, rfl, rfl, rfl⟩

theorem test_decode_row_1 :
    decode [0x10, 0x34] = .ok (.bplRel 0x34, []) ∧
    decode [0x11, 0x34] = .ok (.oraIzy 0x34, []) ∧
    decode [0x12] = .ok (.ill12, []) ∧
    decode [0x13] = .ok (.ill13, []) ∧
    decode [0x14] = .ok (.ill14, []) ∧
    decode [0x15, 0x34] = .ok (.oraZpx 0x34, []) ∧
    decode [0x16, 0x34] = .ok (.aslZpx 0x34, []) ∧
    decode [0x17] = .ok (.ill17, []) ∧
    decode [0x18] = .ok (.clcImp, []) ∧
    decode [0x19, 0x34, 0x12] = .ok (.oraAby 0x1234, []) ∧
    decode [0x1A] = .ok (.ill1A, []) ∧
    decode [0x1B] = .ok (.ill1B, []) ∧
    decode [0x1C] = .ok (.ill1C, []) ∧
    decode [0x1D, 0x34, 0x12] = .ok (.oraAbx 0x1234, []) ∧
    decode [0x1E, 0x34, 0x12] = .ok (.aslAbx 0x1234, []) ∧
    decode [0x1F] = .ok (.ill1F, []) :=
  ⟨rfl, rfl, rfl, rfl, rfl, rfl, rfl, rfl, rfl, rfl, rfl, rfl, rfl, rfl, rfl, rfl⟩

theorem test_decode_row_2 :
    decode [0x20, 0x34, 0x12] = .ok (.jsrAbs 0x1234, []) ∧
    decode [0x21, 0x34] = .ok (.andIzx 0x34, []) ∧
    decode [0x22] = .ok (.ill22, []) ∧
    decode [0x23] = .ok (.ill23, []) ∧
    decode [0x24, 0x34] = .ok (.bitZp0 0x34, []) ∧
    decode [0x25, 0x34] = .ok (.andZp0 0x34, []) ∧
    decode [0x26, 0x34] = .ok (.rolZp0 0x34, []) ∧
    decode [0x27] = .ok (.ill27, []) ∧
    decode [0x28] = .ok (.plpImp, []) ∧
    decode [0x29, 0x34] = .ok (.andImm 0x34, []) ∧
    decode [0x2A] = .ok (.rolImp, []) ∧
    decode [0x2B] = .ok (.ill2B, []) ∧
    decode [0x2C, 0x34, 0x12] = .ok (.bitAbs 0x1234, []) ∧
    decode [0x2D, 0x34, 0x12] = .ok (.andAbs 0x1234, []) ∧
    decode [0x2E, 0x34, 0x12] = .ok (.rolAbs 0x1234, []) ∧
    decode [0x2F] = .ok (.ill2F, []) :=
  ⟨rfl, rfl, rfl, rfl, rfl, rfl, rfl, rfl, rfl, rfl, rfl, rfl, rfl, rfl, rfl, rfl⟩

theorem test_decode_row_3 :
    decode [0x30, 0x34] = .ok (.bmiRel 0x34, []) ∧
    decode [0x31, 0x34] = .ok (.andIzy 0x34, []) ∧
    decode [0x32] = .ok (.ill32, []) ∧
    decode [0x33] = .ok (.ill33, []) ∧
    decode [0x34] = .ok (.ill34, []) ∧
    decode [0x35, 0x34] = .ok (.andZpx 0x34, []) ∧
    decode [0x36, 0x34] = .ok (.rolZpx 0x34, []) ∧
    decode [0x37] = .ok (.ill37, []) ∧
    decode [0x38] = .ok (.secImp, []) ∧
    decode [0x39, 0x34, 0x12] = .ok (.andAby 0x1234, []) ∧
    decode [0x3A] = .ok (.ill3A, []) ∧
    decode [0x3B] = .ok (.ill3B, []) ∧
    decode [0x3C] = .ok (.ill3C, []) ∧
    decode [0x3D, 0x34, 0x12] = .ok (.andAbx 0x1234, []) ∧
    decode [0x3E, 0x34, 0x12] = .ok (.rolAbx 0x1234, []) ∧
    decode [0x3F] = .ok (.ill3F, []) :=
  ⟨rfl, rfl, rfl, rfl, rfl, rfl, rfl, rfl, rfl, rfl, rfl, rfl, rfl, rfl, rfl, rfl⟩

theorem test_decode_row_4 :
    decode [0x40] = .ok (.rtiImp, []) ∧
    decode [0x41, 0x34] = .ok (.eorIzx 0x34, []) ∧
    decode [0x42] = .ok (.ill42, []) ∧
    decode [0x43] = .ok (.ill43, []) ∧
    decode [0x44] = .ok (.ill44, []) ∧
    decode [0x45, 0x34] = .ok (.eorZp0 0x34, []) ∧
    decode [0x46, 0x34] = .ok (.lsrZp0 0x34, []) ∧
    decode [0x47] = .ok (.ill47, []) ∧
    decode [0x48] = .ok (.phaImp, []) ∧
    decode [0x49, 0x34] = .ok (.eorImm 0x34, []) ∧
    decode [0x4A] = .ok (.lsrImp, []) ∧
    decode [0x4B] = .ok (.ill4B, []) ∧
    decode [0x4C, 0x34, 0x12] = .ok (.jmpAbs 0x1234, []) ∧
    decode [0x4D, 0x34, 0x12] = .ok (.eorAbs 0x1234, []) ∧
    decode [0x4E, 0x34, 0x12] = .ok (.lsrAbs 0x1234, []) ∧
    decode [0x4F] = .ok (.ill4F, []) :=
  ⟨rfl, rfl, rfl, rfl, rfl, rfl, rfl, rfl, rfl, rfl, rfl, rfl, rfl, rfl, rfl, rfl⟩

theorem test_decode_row_5 :
    decode [0x50, 0x34] = .ok (.bvcRel 0x34, []) ∧
    decode [0x51, 0x34] = .ok (.eorIzy 0x34, []) ∧
    decode [0x52] = .ok (.ill52, []) ∧
    decode [0x53] = .ok (.ill53, []) ∧
    decode [0x54] = .ok (.ill54, []) ∧
    decode [0x55, 0x34] = .ok (.eorZpx 0x34, []) ∧
    decode [0x56, 0x34] = .ok (.lsrZpx 0x34, []) ∧
    decode [0x57] = .ok (.ill57, []) ∧
    decode [0x58] = .ok (.cliImp, []) ∧
    decode [0x59, 0x34, 0x12] = .ok (.eorAby 0x1234, []) ∧
    decode [0x5A] = .ok (.ill5A, []) ∧
    decode [0x5B] = .ok (.ill5B, []) ∧
    decode [0x5C] = .ok (.ill5C, []) ∧
    decode [0x5D, 0x34, 0x12] = .ok (.eorAbx 0x1234, []) ∧
    decode [0x5E, 0x34, 0x12] = .ok (.lsrAbx 0x1234, []) ∧
    decode [0x5F] = .ok (.ill5F, []) :=
  ⟨rfl, rfl, rfl, rfl, rfl, rfl, rfl, rfl, rfl, rfl, rfl, rfl, rfl, rfl, rfl, rfl⟩

theorem test_decode_row_6 :
    decode [0x60] = .ok (.rtsImp, []) ∧
    decode [0x61, 0x34] = .ok (.adcIzx 0x34, []) ∧
    decode [0x62] = .ok (.ill62, []) ∧
    decode [0x63] = .ok (.ill63, []) ∧
    decode [0x64] = .ok (.ill64, []) ∧
    decode [0x65, 0x34] = .ok (.adcZp0 0x34, []) ∧
    decode [0x66, 0x34] = .ok (.rorZp0 0x34, []) ∧
    decode [0x67] = .ok (.ill67, []) ∧
    decode [0x68] = .ok (.plaImp, []) ∧
    decode [0x69, 0x34] = .ok (.adcImm 0x34, []) ∧
    decode [0x6A] = .ok (.rorImp, []) ∧
    decode [0x6B] = .ok (.ill6B, []) ∧
    decode [0x6C, 0x34, 0x12] = .ok (.jmpInd 0x1234, []) ∧
    decode [0x6D, 0x34, 0x12] = .ok (.adcAbs 0x1234, []) ∧
    decode [0x6E, 0x34, 0x12] = .ok (.rorAbs 0x1234, []) ∧
    decode [0x6F] = .ok (.ill6F, []) :=
  ⟨rfl, rfl, rfl, rfl, rfl, rfl, rfl, rfl, rfl, rfl, rfl, rfl, rfl, rfl, rfl, rfl⟩

theorem test_decode_row_7 :
    decode [0x70, 0x34] = .ok (.bvsRel 0x34, []) ∧
    decode [0x71, 0x34] = .ok (.adcIzy 0x34, []) ∧
    decode [0x72] = .ok (.ill72, []) ∧
    decode [0x73] = .ok (.ill73, []) ∧
    decode [0x74] = .ok (.ill74, []) ∧
    decode [0x75, 0x34] = .ok (.adcZpx 0x34, []) ∧
    decode [0x76, 0x34] = .ok (.rorZpx 0x34, []) ∧
    decode [0x77] = .ok (.ill77, []) ∧
    decode [0x78] = .ok (.seiImp, []) ∧
    decode [0x79, 0x34, 0x12] = .ok (.adcAby 0x1234, []) ∧
    decode [0x7A] = .ok (.ill7A, []) ∧
    decode [0x7B] = .ok (.ill7B, []) ∧
    decode [0x7C] = .ok (.ill7C, []) ∧
    decode [0x7D, 0x34, 0x12] = .ok (.adcAbx 0x1234, []) ∧
    decode [0x7E, 0x34, 0x12] = .ok (.rorAbx 0x1234, []) ∧
    decode [0x7F] = .ok (.ill7F, []) :=
  ⟨rfl, rfl, rfl, rfl, rfl, rfl, rfl, rfl, rfl, rfl, rfl, rfl, rfl, rfl, rfl, rfl⟩

theorem test_decode_row_8 :
    decode [0x80] = .ok (.ill80, []) ∧
    decode [0x81, 0x34] = .ok (.staIzx 0x34, []) ∧
    decode [0x82] = .ok (.ill82, []) ∧
    decode [0x83] = .ok (.ill83, []) ∧
    decode [0x84, 0x34] = .ok (.styZp0 0x34, []) ∧
    decode [0x85, 0x34] = .ok (.staZp0 0x34, []) ∧
    decode [0x86, 0x34] = .ok (.stxZp0 0x34, []) ∧
    decode [0x87] = .ok (.ill87, []) ∧
    decode [0x88] = .ok (.deyImp, []) ∧
    decode [0x89] = .ok (.ill89, []) ∧
    decode [0x8A] = .ok (.txaImp, []) ∧
    decode [0x8B] = .ok (.ill8B, []) ∧
    decode [0x8C, 0x34, 0x12] = .ok (.styAbs 0x1234, []) ∧
    decode [0x8D, 0x34, 0x12] = .ok (.staAbs 0x1234, []) ∧
    decode [0x8E, 0x34, 0x12] = .ok (.stxAbs 0x1234, []) ∧
    decode [0x8F] = .ok (.ill8F, []) :=
  ⟨rfl, rfl, rfl, rfl, rfl, rfl, rfl, rfl, rfl, rfl, rfl, rfl, rfl, rfl, rfl, rfl⟩

theorem test_decode_row_9 :
    decode [0x90, 0x34] = .ok (.bccRel 0x34, []) ∧
    decode [0x91, 0x34] = .ok (.staIzy 0x34, []) ∧
    decode [0x92] = .ok (.ill92, []) ∧
    decode [0x93] = .ok (.ill93, []) ∧
    decode [0x94, 0x34] = .ok (.styZpx 0x34, []) ∧
    decode [0x95, 0x34] = .ok (.staZpx 0x34, []) ∧
    decode [0x96, 0x34] = .ok (.stxZpy 0x34, []) ∧
    decode [0x97] = .ok (.ill97, []) ∧
    decode [0x98] = .ok (.tyaImp, []) ∧
    decode [0x99, 0x34, 0x12] = .ok (.staAby 0x1234, []) ∧
    decode [0x9A] = .ok (.txsImp, []) ∧
    decode [0x9B] = .ok (.ill9B, []) ∧
    decode [0x9C] = .ok (.ill9C, []) ∧
    decode [0x9D, 0x34, 0x12] = .ok (.staAbx 0x1234, []) ∧
    decode [0x9E] = .ok (.ill9E, []) ∧
    decode [0x9F] = .ok (.ill9F, []) :=
  ⟨rfl, rfl, rfl, rfl, rfl, rfl, rfl, rfl, rfl, rfl, rfl, rfl, rfl, rfl, rfl, rfl⟩

theorem test_decode_row_A :
    decode [0xA0, 0x34] = .ok (.ldyImm 0x34, []) ∧
    decode [0xA1, 0x34] = .ok (.ldaIzx 0x34, []) ∧
    decode [0xA2, 0x34] = .ok (.ldxImm 0x34, []) ∧
    decode [0xA3] = .ok (.illA3, []) ∧
    decode [0xA4, 0x34] = .ok (.ldyZp0 0x34, []) ∧
    decode [0xA5, 0x34] = .ok (.ldaZp0 0x34, []) ∧
    decode [0xA6, 0x34] = .ok (.ldxZp0 0x34, []) ∧
    decode [0xA7] = .ok (.illA7, []) ∧
    decode [0xA8] = .ok (.tayImp, []) ∧
    decode [0xA9, 0x34] = .ok (.ldaImm 0x34, []) ∧
    decode [0xAA] = .ok (.taxImp, []) ∧
    decode [0xAB] = .ok (.illAB, []) ∧
    decode [0xAC, 0x34, 0x12] = .ok (.ldyAbs 0x1234, []) ∧
    decode [0xAD, 0x34, 0x12] = .ok (.ldaAbs 0x1234, []) ∧
    decode [0xAE, 0x34, 0x12] = .ok (.ldxAbs 0x1234, []) ∧
    decode [0xAF] = .ok (.illAF, []) :=
  ⟨rfl, rfl, rfl, rfl, rfl, rfl, rfl, rfl, rfl, rfl, rfl, rfl, rfl, rfl, rfl, rfl⟩

theorem test_decode_row_B :
    decode [0xB0, 0x34] = .ok (.bcsRel 0x34, []) ∧
    decode [0xB1, 0x34] = .ok (.ldaIzy 0x34, []) ∧
    decode [0xB2] = .ok (.illB2, []) ∧
    decode [0xB3] = .ok (.illB3, []) ∧
    decode [0xB4, 0x34] = .ok (.ldyZpx 0x34, []) ∧
    decode [0xB5, 0x34] = .ok (.ldaZpx 0x34, []) ∧
    decode [0xB6, 0x34] = .ok (.ldxZpy 0x34, []) ∧
    decode [0xB7] = .ok (.illB7, []) ∧
    decode [0xB8] = .ok (.clvImp, []) ∧
    decode [0xB9, 0x34, 0x12] = .ok (.ldaAby 0x1234, []) ∧
    decode [0xBA] = .ok (.tsxImp, []) ∧
    decode [0xBB] = .ok (.illBB, []) ∧
    decode [0xBC, 0x34, 0x12] = .ok (.ldyAbx 0x1234, []) ∧
    decode [0xBD, 0x34, 0x12] = .ok (.ldaAbx 0x1234, []) ∧
    decode [0xBE, 0x34, 0x12] = .ok (.ldxAby 0x1234, []) ∧
    decode [0xBF] = .ok (.illBF, []) :=
  ⟨rfl, rfl, rfl, rfl, rfl, rfl, rfl, rfl, rfl, rfl, rfl, rfl, rfl, rfl, rfl, rfl⟩

theorem test_decode_row_C :
    decode [0xC0, 0x34] = .ok (.cpyImm 0x34, []) ∧
    decode [0xC1, 0x34] = .ok (.cmpIzx 0x34, []) ∧
    decode [0xC2] = .ok (.illC2, []) ∧
    decode [0xC3] = .ok (.illC3, []) ∧
    decode [0xC4, 0x34] = .ok (.cpyZp0 0x34, []) ∧
    decode [0xC5, 0x34] = .ok (.cmpZp0 0x34, []) ∧
    decode [0xC6, 0x34] = .ok (.decZp0 0x34, []) ∧
    decode [0xC7] = .ok (.illC7, []) ∧
    decode [0xC8] = .ok (.inyImp, []) ∧
    decode [0xC9, 0x34] = .ok (.cmpImm 0x34, []) ∧
    decode [0xCA] = .ok (.dexImp, []) ∧
    decode [0xCB] = .ok (.illCB, []) ∧
    decode [0xCC, 0x34, 0x12] = .ok (.cpyAbs 0x1234, []) ∧
    decode [0xCD, 0x34, 0x12] = .ok (.cmpAbs 0x1234, []) ∧
    decode [0xCE, 0x34, 0x12] = .ok (.decAbs 0x1234, []) ∧
    decode [0xCF] = .ok (.illCF, []) :=
  ⟨rfl, rfl, rfl, rfl, rfl, rfl, rfl, rfl, rfl, rfl, rfl, rfl, rfl, rfl, rfl, rfl⟩

theorem test_decode_row_D :
    decode [0xD0, 0x34] = .ok (.bneRel 0x34, []) ∧
    decode [0xD1, 0x34] = .ok (.cmpIzy 0x34, []) ∧
    decode [0xD2] = .ok (.illD2, []) ∧
    decode [0xD3] = .ok (.illD3, []) ∧
    decode [0xD4] = .ok (.illD4, []) ∧
    decode [0xD5, 0x34] = .ok (.cmpZpx 0x34, []) ∧
    decode [0xD6, 0x34] = .ok (.decZpx 0x34, []) ∧
    decode [0xD7] = .ok (.illD7, []) ∧
    decode [0xD8] = .ok (.cldImp, []) ∧
    decode [0xD9, 0x34, 0x12] = .ok (.cmpAby 0x1234, []) ∧
    decode [0xDA] = .ok (.illDA, []) ∧
    decode [0xDB] = .ok (.illDB, []) ∧
    decode [0xDC] = .ok (.illDC, []) ∧
    decode [0xDD, 0x34, 0x12] = .ok (.cmpAbx 0x1234, []) ∧
    decode [0xDE, 0x34, 0x12] = .ok (.decAbx 0x1234, []) ∧
    decode [0xDF] = .ok (.illDF, []) :=
  ⟨rfl, rfl, rfl, rfl, rfl, rfl, rfl, rfl, rfl, rfl, rfl, rfl, rfl, rfl, rfl, rfl⟩

theorem test_decode_row_E :
    decode [0xE0, 0x34] = .ok (.cpxImm 0x34, []) ∧
    decode [0xE1, 0x34] = .ok (.sbcIzx 0x34, []) ∧
    decode [0xE2] = .ok (.illE2, []) ∧
    decode [0xE3] = .ok (.illE3, []) ∧
    decode [0xE4, 0x34] = .ok (.cpxZp0 0x34, []) ∧
    decode [0xE5, 0x34] = .ok (.sbcZp0 0x34, []) ∧
    decode [0xE6, 0x34] = .ok (.incZp0 0x34, []) ∧
    decode [0xE7] = .ok (.illE7, []) ∧
    decode [0xE8] = .ok (.inxImp, []) ∧
    decode [0xE9, 0x34] = .ok (.sbcImm 0x34, []) ∧
    decode [0xEA] = .ok (.nopImp, []) ∧
    decode [0xEB] = .ok (.illEB, []) ∧
    decode [0xEC, 0x34, 0x12] = .ok (.cpxAbs 0x1234, []) ∧
    decode [0xED, 0x34, 0x12] = .ok (.sbcAbs 0x1234, []) ∧
    decode [0xEE, 0x34, 0x12] = .ok (.incAbs 0x1234, []) ∧
    decode [0xEF] = .ok (.illEF, []) :=
  ⟨rfl, rfl, rfl, rfl, rfl, rfl, rfl, rfl, rfl, rfl, rfl, rfl, rfl, rfl, rfl, rfl⟩

theorem test_decode_row_F :
    decode [0xF0, 0x34] = .ok (.beqRel 0x34, []) ∧
    decode [0xF1, 0x34] = .ok (.sbcIzy 0x34, []) ∧
    decode [0xF2] = .ok (.illF2, []) ∧
    decode [0xF3] = .ok (.illF3, []) ∧
    decode [0xF4] = .ok (.illF4, []) ∧
    decode [0xF5, 0x34] = .ok (.sbcZpx 0x34, []) ∧
    decode [0xF6, 0x34] = .ok (.incZpx 0x34, []) ∧
    decode [0xF7] = .ok (.illF7, []) ∧
    decode [0xF8] = .ok (.sedImp, []) ∧
    decode [0xF9, 0x34, 0x12] = .ok (.sbcAby 0x1234, []) ∧
    decode [0xFA] = .ok (.illFA, []) ∧
    decode [0xFB] = .ok (.illFB, []) ∧
    decode [0xFC] = .ok (.illFC, []) ∧
    decode [0xFD, 0x34, 0x12] = .ok (.sbcAbx 0x1234, []) ∧
    decode [0xFE, 0x34, 0x12] = .ok (.incAbx 0x1234, []) ∧
    decode [0xFF] = .ok (.illFF, []) :=
  ⟨rfl, rfl, rfl, rfl, rfl, rfl, rfl, rfl, rfl, rfl, rfl, rfl, rfl, rfl, rfl, rfl⟩

/-- An opcode byte whose operand bytes run out, and no byte at all, decode to nothing. -/
theorem test_truncated_bytes_are_refused :
    decode [] = .error .noBytes ∧ decode [0xA9] = .error (.truncated 0xA9) ∧
    decode [0x4C] = .error (.truncated 0x4C) ∧ decode [0x4C, 0x34] = .error (.truncated 0x4C) :=
  ⟨rfl, rfl, rfl, rfl⟩

/-- Bits of a table word: bit 0 is the least significant bit of the opcode byte, and bits above the row's are
zeros. -/
theorem test_decode_table_word :
    decodeTableWord 24 0x1234BD = some (.ldaAbx 0x1234) ∧ decodeTableWord 8 0xA9 = some (.ldaImm 0x00) ∧
    decodeTableWord 16 0xFAD0 = some (.bneRel 0xFA) ∧ decodeTableWord 8 0x04 = some .ill04 :=
  ⟨rfl, rfl, rfl, rfl⟩

/-! ### One instruction each, by one fetch tick. The docstring names the vector. -/

/-- V1: the address wraps, which counts as a page cross. -/
theorem test_lda_aby_wraps_past_FFFF :
    after (cpuClock { start [0xB9, 0xFF, 0xFF] with y := 0x02, ram := [(0x0001, 0x66)] })
      (fun t => regs t 0x66 0 2 0xFD 0x20 0x8003 5) = true := by decide

/-- V1: the pointer's high byte comes from 0x0000. -/
theorem test_lda_izx_pointer_wraps :
    after (cpuClock { start [0xA1, 0xFF] with ram := [(0x0000, 0x02), (0x00FF, 0x34), (0x0234, 0x5A)] })
      (fun t => regs t 0x5A 0 0 0xFD 0x20 0x8002 6) = true := by decide

/-- V1: zero-page indexing stays in page 0. -/
theorem test_ldx_zpy_wraps :
    after (cpuClock { start [0xB6, 0xFF] with y := 0x02, ram := [(0x0001, 0x99)] })
      (fun t => regs t 0 0x99 2 0xFD 0xA0 0x8002 4) = true := by decide

/-- R172, R150, R141: 0x02F0 + 0x20 lies in the next page. -/
theorem test_ldy_abx_crosses :
    after (cpuClock { start [0xBC, 0xF0, 0x02] with x := 0x20, ram := [(0x0310, 0x44)] })
      (fun t => regs t 0 0x20 0x44 0xFD 0x20 0x8003 5) = true := by decide

/-- V1. -/
theorem test_sta_izy_cross_costs_nothing :
    after (cpuClock { start [0x91, 0x20] with a := 0xAB, y := 0x12, ram := [(0x0020, 0xF0), (0x0021, 0x02)] })
      (fun t => regs t 0xAB 0 0x12 0xFD 0x20 0x8002 6 && reads t 0x0302 0xAB) = true := by decide

/-- V1. -/
theorem test_sta_ppu_register_mirror :
    after (cpuClock { start [0x8D, 0x08, 0x20] with a := 0x3D })
      (fun t => reads t 0x2000 0x3D && reads t 0x3FF8 0x3D && t.cycles == 4) = true := by decide

/-- R174, R147: the index is Y. -/
theorem test_stx_zpy :
    after (cpuClock { start [0x96, 0xF0] with x := 0x5A, y := 0x20 })
      (fun t => reads t 0x0010 0x5A && regs t 0 0x5A 0x20 0xFD 0x20 0x8002 4) = true := by decide

/-- R175, R146: the index is X. -/
theorem test_sty_zpx :
    after (cpuClock { start [0x94, 0xF0] with x := 0x20, y := 0xA5 })
      (fun t => reads t 0x0010 0xA5 && regs t 0 0x20 0xA5 0xFD 0x20 0x8002 4) = true := by decide

/-- V1. -/
theorem test_tax :
    after (cpuClock { start [0xAA] with a := 0x80 })
      (fun t => regs t 0x80 0x80 0 0xFD 0xA0 0x8001 2) = true := by decide

/-- V1. -/
theorem test_tay :
    after (cpuClock { start [0xA8] with y := 0x05 })
      (fun t => regs t 0 0 0 0xFD 0x22 0x8001 2) = true := by decide

/-- V1. -/
theorem test_tsx :
    after (cpuClock (start [0xBA]))
      (fun t => regs t 0 0xFD 0 0xFD 0xA0 0x8001 2) = true := by decide

/-- V1. -/
theorem test_txs_sets_no_flag :
    after (cpuClock (start [0x9A]))
      (fun t => regs t 0 0 0 0 0x20 0x8001 2) = true := by decide

/-- V1. -/
theorem test_txa :
    after (cpuClock { start [0x8A] with x := 0x01 })
      (fun t => regs t 1 1 0 0xFD 0x20 0x8001 2) = true := by decide

/-- V1. -/
theorem test_tya :
    after (cpuClock { start [0x98] with y := 0xFF })
      (fun t => regs t 0xFF 0 0xFF 0xFD 0xA0 0x8001 2) = true := by decide

/-- V3: 80 + 80. -/
theorem test_adc_carry_and_overflow :
    after (cpuClock { start [0x69, 0x80] with a := 0x80 })
      (fun t => regs t 0 0 0 0xFD 0x63 0x8002 2) = true := by decide

/-- V3: 09 + 01 with D set is 0A. -/
theorem test_adc_ignores_decimal :
    after (cpuClock { start [0x69, 0x01] with a := 0x09, p := 0x28 })
      (fun t => regs t 0x0A 0 0 0xFD 0x28 0x8002 2) = true := by decide

/-- V4: 80 - 01. -/
theorem test_sbc_overflow :
    after (cpuClock { start [0xE9, 0x01] with a := 0x80, p := 0x21 })
      (fun t => regs t 0x7F 0 0 0xFD 0x61 0x8002 2) = true := by decide

/-- V4: 05 - 05 with a borrow. -/
theorem test_sbc_borrow :
    after (cpuClock { start [0xE9, 0x05] with a := 0x05 })
      (fun t => regs t 0xFF 0 0 0xFD 0xA0 0x8002 2) = true := by decide

/-- V2. -/
theorem test_and :
    after (cpuClock { start [0x29, 0x0F] with a := 0xF0 })
      (fun t => regs t 0 0 0 0xFD 0x22 0x8002 2) = true := by decide

/-- V2. -/
theorem test_ora :
    after (cpuClock { start [0x09, 0x80] with a := 0x01 })
      (fun t => regs t 0x81 0 0 0xFD 0xA0 0x8002 2) = true := by decide

/-- V2. -/
theorem test_eor :
    after (cpuClock { start [0x49, 0xFF] with a := 0xFF })
      (fun t => regs t 0 0 0 0xFD 0x22 0x8002 2) = true := by decide

/-- V2. -/
theorem test_bit_sets_from_memory :
    after (cpuClock { start [0x24, 0x10] with a := 0x01, ram := [(0x0010, 0xC0)] })
      (fun t => regs t 1 0 0 0xFD 0xE2 0x8002 3) = true := by decide

/-- V2. -/
theorem test_bit_clears :
    after (cpuClock { start [0x24, 0x10] with a := 0xFF, p := 0xE0, ram := [(0x0010, 0x3F)] })
      (fun t => regs t 0xFF 0 0 0xFD 0x20 0x8002 3) = true := by decide

/-- V2: 10 - 20. -/
theorem test_cmp_less :
    after (cpuClock { start [0xC9, 0x20] with a := 0x10 })
      (fun t => regs t 0x10 0 0 0xFD 0xA0 0x8002 2) = true := by decide

/-- V2: 80 - 00. -/
theorem test_cmp_greater :
    after (cpuClock { start [0xC9, 0x00] with a := 0x80 })
      (fun t => regs t 0x80 0 0 0xFD 0xA1 0x8002 2) = true := by decide

/-- V2. -/
theorem test_cpx :
    after (cpuClock { start [0xE0, 0x03] with x := 0x03 })
      (fun t => regs t 0 3 0 0xFD 0x23 0x8002 2) = true := by decide

/-- V2. -/
theorem test_cpy :
    after (cpuClock { start [0xC0, 0x12] with y := 0x0F })
      (fun t => regs t 0 0 0x0F 0xFD 0xA0 0x8002 2) = true := by decide

/-- V2. -/
theorem test_inc_wraps :
    after (cpuClock { start [0xE6, 0x40] with ram := [(0x0040, 0xFF)] })
      (fun t => reads t 0x0040 0 && regs t 0 0 0 0xFD 0x22 0x8002 5) = true := by decide

/-- V2. -/
theorem test_inc_sets_n :
    after (cpuClock { start [0xE6, 0x40] with ram := [(0x0040, 0x7F)] })
      (fun t => reads t 0x0040 0x80 && regs t 0 0 0 0xFD 0xA0 0x8002 5) = true := by decide

/-- V2. -/
theorem test_dec_wraps :
    after (cpuClock (start [0xC6, 0x40]))
      (fun t => reads t 0x0040 0xFF && regs t 0 0 0 0xFD 0xA0 0x8002 5) = true := by decide

/-- V2. -/
theorem test_dec_cross_costs_nothing :
    after (cpuClock { start [0xDE, 0xFF, 0x02] with x := 0x01, ram := [(0x0300, 0x10)] })
      (fun t => reads t 0x0300 0x0F && regs t 0 1 0 0xFD 0x20 0x8003 7) = true := by decide

/-- V2. -/
theorem test_inx :
    after (cpuClock { start [0xE8] with x := 0xFF })
      (fun t => regs t 0 0 0 0xFD 0x22 0x8001 2) = true := by decide

/-- V2. -/
theorem test_iny :
    after (cpuClock { start [0xC8] with y := 0x7F })
      (fun t => regs t 0 0 0x80 0xFD 0xA0 0x8001 2) = true := by decide

/-- V2. -/
theorem test_dex :
    after (cpuClock (start [0xCA]))
      (fun t => regs t 0 0xFF 0 0xFD 0xA0 0x8001 2) = true := by decide

/-- V2. -/
theorem test_dey :
    after (cpuClock { start [0x88] with y := 0x01 })
      (fun t => regs t 0 0 0 0xFD 0x22 0x8001 2) = true := by decide

/-- V5. -/
theorem test_asl_accumulator :
    after (cpuClock { start [0x0A] with a := 0x81 })
      (fun t => regs t 2 0 0 0xFD 0x21 0x8001 2) = true := by decide

/-- V5. -/
theorem test_asl_memory :
    after (cpuClock { start [0x06, 0x10] with ram := [(0x0010, 0x80)] })
      (fun t => reads t 0x0010 0 && regs t 0 0 0 0xFD 0x23 0x8002 5) = true := by decide

/-- V5. -/
theorem test_lsr_accumulator :
    after (cpuClock { start [0x4A] with a := 0x01 })
      (fun t => regs t 0 0 0 0xFD 0x23 0x8001 2) = true := by decide

/-- V5. -/
theorem test_lsr_memory_clears_n :
    after (cpuClock { start [0x46, 0x10] with p := 0xA1, ram := [(0x0010, 0xFE)] })
      (fun t => reads t 0x0010 0x7F && regs t 0 0 0 0xFD 0x20 0x8002 5) = true := by decide

/-- V5. -/
theorem test_rol_takes_the_carry :
    after (cpuClock { start [0x2A] with a := 0x80, p := 0x21 })
      (fun t => regs t 1 0 0 0xFD 0x21 0x8001 2) = true := by decide

/-- V5. -/
theorem test_rol_without_carry :
    after (cpuClock { start [0x2A] with a := 0x80 })
      (fun t => regs t 0 0 0 0xFD 0x23 0x8001 2) = true := by decide

/-- V5. -/
theorem test_ror_takes_the_carry :
    after (cpuClock { start [0x6A] with a := 0x01, p := 0x21 })
      (fun t => regs t 0x80 0 0 0xFD 0xA1 0x8001 2) = true := by decide

/-- V5. -/
theorem test_ror_memory_cross_costs_nothing :
    after (cpuClock { start [0x7E, 0x10, 0x03] with x := 0xF0, p := 0x21, ram := [(0x0400, 0x02)] })
      (fun t => reads t 0x0400 0x81 && regs t 0 0xF0 0 0xFD 0xA0 0x8003 7) = true := by decide

/-- V6: the next instruction is in page 0x81, the target in page 0x80. -/
theorem test_bne_taken_to_another_page :
    after (cpuClock (startAt 0x80FE [0xD0, 0xFA]))
      (fun t => regs t 0 0 0 0xFD 0x20 0x80FA 4) = true := by decide

/-- V6. -/
theorem test_bne_not_taken :
    after (cpuClock { startAt 0x8014 [0xD0, 0xFA] with p := 0x22 })
      (fun t => regs t 0 0 0 0xFD 0x22 0x8016 2) = true := by decide

/-- V6. -/
theorem test_bcc_taken :
    after (cpuClock (start [0x90, 0x02]))
      (fun t => regs t 0 0 0 0xFD 0x20 0x8004 3) = true := by decide

/-- R231. -/
theorem test_bcc_not_taken :
    after (cpuClock { start [0x90, 0x02] with p := 0x21 })
      (fun t => regs t 0 0 0 0xFD 0x21 0x8002 2) = true := by decide

/-- V6. -/
theorem test_bcs_taken :
    after (cpuClock { start [0xB0, 0x02] with p := 0x21 })
      (fun t => regs t 0 0 0 0xFD 0x21 0x8004 3) = true := by decide

/-- V6. -/
theorem test_bcs_not_taken :
    after (cpuClock (start [0xB0, 0x02]))
      (fun t => regs t 0 0 0 0xFD 0x20 0x8002 2) = true := by decide

/-- V6. -/
theorem test_beq_self_loop :
    after (cpuClock { start [0xF0, 0xFE] with p := 0x22 })
      (fun t => regs t 0 0 0 0xFD 0x22 0x8000 3) = true := by decide

/-- R233. -/
theorem test_beq_not_taken :
    after (cpuClock (start [0xF0, 0xFE]))
      (fun t => regs t 0 0 0 0xFD 0x20 0x8002 2) = true := by decide

/-- V6. -/
theorem test_bmi_largest_forward :
    after (cpuClock { start [0x30, 0x7F] with p := 0xA0 })
      (fun t => regs t 0 0 0 0xFD 0xA0 0x8081 3) = true := by decide

/-- R234. -/
theorem test_bmi_not_taken :
    after (cpuClock (start [0x30, 0x7F]))
      (fun t => regs t 0 0 0 0xFD 0x20 0x8002 2) = true := by decide

/-- V6. -/
theorem test_bpl_largest_backward :
    after (cpuClock (start [0x10, 0x80]))
      (fun t => regs t 0 0 0 0xFD 0x20 0x7F82 4) = true := by decide

/-- R236. -/
theorem test_bpl_not_taken :
    after (cpuClock { start [0x10, 0x80] with p := 0xA0 })
      (fun t => regs t 0 0 0 0xFD 0xA0 0x8002 2) = true := by decide

/-- V6. -/
theorem test_bvc_zero_offset_still_costs :
    after (cpuClock (start [0x50, 0x00]))
      (fun t => regs t 0 0 0 0xFD 0x20 0x8002 3) = true := by decide

/-- R237. -/
theorem test_bvc_not_taken :
    after (cpuClock { start [0x50, 0x00] with p := 0x60 })
      (fun t => regs t 0 0 0 0xFD 0x60 0x8002 2) = true := by decide

/-- V6. -/
theorem test_bvs_taken :
    after (cpuClock { start [0x70, 0x10] with p := 0x60 })
      (fun t => regs t 0 0 0 0xFD 0x60 0x8012 3) = true := by decide

/-- V6. -/
theorem test_bvs_not_taken :
    after (cpuClock (start [0x70, 0x10]))
      (fun t => regs t 0 0 0 0xFD 0x20 0x8002 2) = true := by decide

/-- V7. -/
theorem test_jmp_absolute :
    after (cpuClock (start [0x4C, 0x0B, 0x80]))
      (fun t => regs t 0 0 0 0xFD 0x20 0x800B 3) = true := by decide

/-- V7 and T4: the high byte comes from 0x0200, not 0x0300. -/
theorem test_jmp_indirect_page_wrap :
    after (cpuClock { start [0x6C, 0xFF, 0x02] with ram := [(0x0200, 0x56), (0x02FF, 0x34), (0x0300, 0x12)] })
      (fun t => regs t 0 0 0 0xFD 0x20 0x5634 5) = true := by decide

/-- V7. -/
theorem test_jsr :
    after (cpuClock { start [0x20, 0x10, 0x80] with sp := 0xFF })
      (fun t => reads t 0x01FF 0x80 && reads t 0x01FE 0x02 && regs t 0 0 0 0xFD 0x20 0x8010 6) = true := by decide

/-- V7. -/
theorem test_rts :
    after (cpuClock { start [0x60] with ram := [(0x01FE, 0x07), (0x01FF, 0x80)] })
      (fun t => regs t 0 0 0 0xFF 0x20 0x8008 6) = true := by decide

/-- V7. -/
theorem test_rts_wraps :
    after (cpuClock { start [0x60] with ram := [(0x01FE, 0xFF), (0x01FF, 0xFF)] })
      (fun t => regs t 0 0 0 0xFF 0x20 0x0000 6) = true := by decide

/-- V8. -/
theorem test_pha :
    after (cpuClock { start [0x48] with a := 0x05 })
      (fun t => reads t 0x01FD 0x05 && regs t 5 0 0 0xFC 0x20 0x8001 3) = true := by decide

/-- V8. -/
theorem test_pha_stack_wraps :
    after (cpuClock { start [0x48] with a := 0x77, sp := 0 })
      (fun t => reads t 0x0100 0x77 && regs t 0x77 0 0 0xFF 0x20 0x8001 3) = true := by decide

/-- V8. -/
theorem test_pla :
    after (cpuClock { start [0x68] with a := 0x09, sp := 0xFC })
      (fun t => regs t 0 0 0 0xFD 0x22 0x8001 4) = true := by decide

/-- V8. -/
theorem test_pla_stack_wraps :
    after (cpuClock { start [0x68] with sp := 0xFF, ram := [(0x0100, 0x81)] })
      (fun t => regs t 0x81 0 0 0 0xA0 0x8001 4) = true := by decide

/-- V8. -/
theorem test_php_pushes_b_set :
    after (cpuClock { start [0x08] with p := 0x23 })
      (fun t => reads t 0x01FD 0x33 && regs t 0 0 0 0xFC 0x23 0x8001 3) = true := by decide

/-- V8. -/
theorem test_php_clears_live_b :
    after (cpuClock { start [0x08] with p := 0xB0 })
      (fun t => reads t 0x01FD 0xB0 && regs t 0 0 0 0xFC 0xA0 0x8001 3) = true := by decide

/-- V8. -/
theorem test_plp_loads_b :
    after (cpuClock { start [0x28] with sp := 0xFC, ram := [(0x01FD, 0xCF)] })
      (fun t => regs t 0 0 0 0xFD 0xEF 0x8001 4) = true := by decide

/-- V8. -/
theorem test_plp_forces_u :
    after (cpuClock { start [0x28] with sp := 0xFC, p := 0xFF })
      (fun t => regs t 0 0 0 0xFD 0x20 0x8001 4) = true := by decide

/-- V8. -/
theorem test_clc :
    after (cpuClock { start [0x18] with p := 0x21 })
      (fun t => regs t 0 0 0 0xFD 0x20 0x8001 2) = true := by decide

/-- V8. -/
theorem test_sec :
    after (cpuClock { start [0x38] with p := 0x20 })
      (fun t => regs t 0 0 0 0xFD 0x21 0x8001 2) = true := by decide

/-- V8. -/
theorem test_cli :
    after (cpuClock { start [0x58] with p := 0x24 })
      (fun t => regs t 0 0 0 0xFD 0x20 0x8001 2) = true := by decide

/-- V8. -/
theorem test_sei :
    after (cpuClock { start [0x78] with p := 0x20 })
      (fun t => regs t 0 0 0 0xFD 0x24 0x8001 2) = true := by decide

/-- V8. -/
theorem test_cld :
    after (cpuClock { start [0xD8] with p := 0x28 })
      (fun t => regs t 0 0 0 0xFD 0x20 0x8001 2) = true := by decide

/-- V8. -/
theorem test_sed :
    after (cpuClock { start [0xF8] with p := 0x20 })
      (fun t => regs t 0 0 0 0xFD 0x28 0x8001 2) = true := by decide

/-- V8. -/
theorem test_clv :
    after (cpuClock { start [0xB8] with p := 0x60 })
      (fun t => regs t 0 0 0 0xFD 0x20 0x8001 2) = true := by decide

/-- V8. -/
theorem test_nop :
    after (cpuClock (start [0xEA]))
      (fun t => regs t 0 0 0 0xFD 0x20 0x8001 2) = true := by decide

/-- The BRK and IRQ vector of a one-bank cartridge at 0x9000, the NMI vector at 0xA000, the reset vector at
0x1234. -/
def withVectors (s : State) : State :=
  { s with cart := s.cart.map fun c =>
      { c with prg := ((((c.prg.write 0x3FFB 0xA0).write 0x3FFC 0x34).write 0x3FFD 0x12).write 0x3FFF 0x90) } }

/-- V9. -/
theorem test_brk :
    after (cpuClock (withVectors { startAt 0x8006 [0x00] with sp := 0xFF }))
      (fun t => reads t 0x01FF 0x80 && reads t 0x01FE 0x08 && reads t 0x01FD 0x30 && regs t 0 0 0 0xFC 0x24 0x9000 7) = true := by decide

/-- V9: BRK_RETURN_OFFSET 3, and I already set. -/
theorem test_brk_return_offset_3 :
    after (cpuClock (withVectors { startAt 0x8006 [0x00] with sp := 0xFF, p := 0x24, cfg := { brkReturnOffset := 3 } }))
      (fun t => reads t 0x01FE 0x09 && reads t 0x01FD 0x34 && regs t 0 0 0 0xFC 0x24 0x9000 7) = true := by decide

/-- V9. -/
theorem test_rti :
    after (cpuClock { start [0x40] with sp := 0xFC, ram := [(0x01FD, 0x30), (0x01FE, 0x08), (0x01FF, 0x80)] })
      (fun t => regs t 0 0 0 0xFF 0x20 0x8008 6) = true := by decide

/-- V9. -/
theorem test_rti_clears_b_sets_u :
    after (cpuClock { start [0x40] with sp := 0xFC, ram := [(0x01FD, 0xDF), (0x01FF, 0x90)] })
      (fun t => regs t 0 0 0 0xFF 0xEF 0x9000 6) = true := by decide

/-- The illegal opcodes by base cycle count, the table of 30_encoding R115: each is one byte long, changes
neither A, X, Y, SP nor P, and stores nothing. -/
def stubDoes (n : Nat) (op : Byte) : Bool :=
  after (cpuClock { start [op, 0x34, 0x12] with a := 0x12, p := 0xA1 }) fun t =>
    regs t 0x12 0 0 0xFD 0xA1 0x8001 n && decide (t.ram = []) && t.fetched == 0x12

theorem test_illegal_xxx_2 :
    ([0x02, 0x0B, 0x12, 0x22, 0x2B, 0x32, 0x42, 0x4B, 0x52, 0x62, 0x6B, 0x72,
      0x8B, 0x92, 0xAB, 0xB2, 0xCB, 0xD2, 0xEB, 0xF2] : List Byte).all (stubDoes 2) = true := by decide

theorem test_illegal_xxx_3 :
    ([0x87, 0xA7] : List Byte).all (stubDoes 3) = true := by decide

theorem test_illegal_xxx_4 :
    ([0x8F, 0x97, 0xAF, 0xB7, 0xBB, 0xBF] : List Byte).all (stubDoes 4) = true := by decide

theorem test_illegal_xxx_5 :
    ([0x07, 0x27, 0x47, 0x67, 0x9B, 0x9E, 0x9F, 0xB3, 0xC7, 0xE7] : List Byte).all (stubDoes 5) = true := by decide

theorem test_illegal_xxx_6 :
    ([0x0F, 0x17, 0x2F, 0x37, 0x4F, 0x57, 0x6F, 0x77, 0x83, 0x93, 0xA3, 0xCF,
      0xD7, 0xEF, 0xF7] : List Byte).all (stubDoes 6) = true := by decide

theorem test_illegal_xxx_7 :
    ([0x1B, 0x1F, 0x3B, 0x3F, 0x5B, 0x5F, 0x7B, 0x7F, 0xDB, 0xDF, 0xFB, 0xFF] : List Byte).all (stubDoes 7) = true := by decide

theorem test_illegal_xxx_8 :
    ([0x03, 0x13, 0x23, 0x33, 0x43, 0x53, 0x63, 0x73, 0xC3, 0xD3, 0xE3, 0xF3] : List Byte).all (stubDoes 8) = true := by decide

theorem test_illegal_nop_2 :
    ([0x1A, 0x3A, 0x5A, 0x7A, 0x80, 0x82, 0x89, 0xC2, 0xDA, 0xE2, 0xFA] : List Byte).all (stubDoes 2) = true := by decide

theorem test_illegal_nop_3 :
    ([0x04, 0x44, 0x64] : List Byte).all (stubDoes 3) = true := by decide

theorem test_illegal_nop_4 :
    ([0x0C, 0x14, 0x1C, 0x34, 0x3C, 0x54, 0x5C, 0x74, 0x7C, 0xD4, 0xDC, 0xF4,
      0xFC] : List Byte).all (stubDoes 4) = true := by decide

theorem test_illegal_nop_5 :
    ([0x9C] : List Byte).all (stubDoes 5) = true := by decide

/-- Replaced entries of ILLEGAL_TABLE (30_encoding R115): 0x1C bound to `NOP`, named TOP, and 0x1B bound to
`XXX`, both of an indexed mode, where the stub's extra cycle is DOC1's 1 (90_conflicts C9). -/
def replaced (bytes : List Byte) : State :=
  { start bytes with
    x := 0x20
    y := 0x20
    cfg := { illegalOverrides := [
      { opcode := 0x1C, name := ['T', 'O', 'P'], mode := .ABX, baseCycles := 4, routine := .nop },
      { opcode := 0x1B, name := ['S', 'L', 'O'], mode := .ABY, baseCycles := 7, routine := .xxx }] } }

theorem test_illegal_override :
    after (cpuClock (replaced [0x1C, 0xF0, 0x02]))
      (fun t => regs t 0 0x20 0x20 0xFD 0x20 0x8003 5 && t.addrAbs == 0x0310) = true ∧
    after (cpuClock (replaced [0x1B, 0xF0, 0x02]))
      (fun t => regs t 0 0x20 0x20 0xFD 0x20 0x8003 8) = true ∧
    after (cpuClock (replaced [0x1C, 0xD0, 0x02]))
      (fun t => regs t 0 0x20 0x20 0xFD 0x20 0x8003 4) = true := by decide

/-- The replaced entry's mnemonic string is what the disassembler prints (30_encoding R118). -/
theorem test_illegal_override_name :
    (tableEntry (replaced []).cfg 0x1C).name = ['T', 'O', 'P'] ∧
    (tableEntry (replaced []).cfg 0x0C).name = ['?', '?', '?'] ∧
    (tableEntry (replaced []).cfg 0xDA).name = ['N', 'O', 'P'] := by decide

/-! ### Interrupts, resets, clocks -/

/-- V10. -/
theorem test_irq :
    after (perform .irq (withVectors { startAt 0x800B [] with sp := 0xFF, a := 0x19 }))
      (fun t => reads t 0x01FF 0x80 && reads t 0x01FE 0x0B && reads t 0x01FD 0x20 && regs t 0x19 0 0 0xFC 0x24 0x9000 7) = true := by decide

/-- V10: ignored and not latched. -/
theorem test_irq_masked :
    after (perform .irq (withVectors { startAt 0x800B [] with sp := 0xFF, a := 0x19, p := 0x24, cycles := 3 }))
      (fun t => decide (t = withVectors { startAt 0x800B [] with sp := 0xFF, a := 0x19, p := 0x24, cycles := 3 })) = true := by decide

/-- V10: the pending cycles are replaced. -/
theorem test_irq_pushes_b_clear :
    after (perform .irq (withVectors { startAt 0x800B [] with sp := 0xFF, a := 0x19, p := 0x30, cycles := 2 }))
      (fun t => reads t 0x01FD 0x20 && regs t 0x19 0 0 0xFC 0x24 0x9000 7) = true := by decide

/-- V10. -/
theorem test_nmi_whatever_i_holds :
    after (perform .nmi (withVectors { startAt 0x800B [] with sp := 0xFF, a := 0x19, p := 0x24 }))
      (fun t => reads t 0x01FD 0x24 && regs t 0x19 0 0 0xFC 0x24 0xA000 8) = true := by decide

/-- V10. -/
theorem test_nmi_without_cartridge :
    after (perform .nmi { State.reset with cycles := 0, pc := 0x800B, sp := 0xFF })
      (fun t => regs t 0 0 0 0xFC 0x24 0x0000 8) = true := by decide

/-- V10. -/
theorem test_irq_stack_wraps :
    after (perform .irq (withVectors { startAt 0x800B [] with a := 0x19, sp := 0x01 }))
      (fun t => reads t 0x0101 0x80 && reads t 0x0100 0x0B && reads t 0x01FF 0x20 && t.sp == 0xFE) = true := by decide

/-- V11. -/
theorem test_bus_reset :
    after (perform .busReset (withVectors { start [] with a := 0x12, x := 0x34, y := 0x56, sp := 0, p := 0xFF, cycles := 3, busClockCounter := 7, addrAbs := 5, addrRel := 6, fetched := 7 }))
      (fun t => regs t 0 0 0 0xFD 0x20 0x1234 8 && t.busClockCounter == 0 && t.addrAbs == 0 && t.addrRel == 0 && t.fetched == 0) = true := by decide

/-- V11. -/
theorem test_cpu_reset_keeps_bus_counter :
    after (perform .cpuReset { State.reset with busClockCounter := 7, pc := 0x55, cycles := 0 })
      (fun t => regs t 0 0 0 0xFD 0x20 0x0000 8 && t.busClockCounter == 7) = true := by decide

/-- V15. -/
theorem test_ppu_clock :
    ([((0, 0, false), (1, 0, false)), ((339, 5, false), (340, 5, false)), ((340, 5, false), (0, 6, false)),
      ((340, -1, false), (0, 0, false)), ((340, 259, false), (0, 260, false)),
      ((340, 260, false), (0, -1, true)), ((340, 260, true), (0, -1, true)),
      ((7, 3, true), (8, 3, true))] : List ((Nat × Int × Bool) × (Nat × Int × Bool))).all
      (fun ((c, l, f), want) =>
        let t := ppuClock { State.reset with ppuCycle := c, ppuScanline := l, frameComplete := f }
        decide ((t.ppuCycle, t.ppuScanline, t.frameComplete) = want)) = true := by decide

/-- The frame signal is read by the host and cleared by it (60_exceptions R292). -/
theorem test_clear_frame_complete :
    after (perform .clearFrameComplete { State.reset with frameComplete := true })
      (fun t => t.frameComplete == false) = true := by decide

/-- V15: the CPU ticks in the calls whose counter is a multiple of three. -/
theorem test_bus_clock :
    (after (busClock { State.reset with busClockCounter := 0 })
      (fun t => t.cycles == 7 && t.busClockCounter == 1 && t.ppuCycle == 1)) = true ∧
    (after (busClock { State.reset with busClockCounter := 2 })
      (fun t => t.cycles == 8 && t.busClockCounter == 3 && t.ppuCycle == 1)) = true ∧
    (after (busClock { State.reset with busClockCounter := 3 })
      (fun t => t.cycles == 7 && t.busClockCounter == 4)) = true := by decide

/-- R295 (b) and R328: the first instruction after a bus reset completes in the 25th call. -/
theorem test_first_step_takes_25_calls :
    after (step (State.reset.withFetchWord 16 0x05A9))
      (fun t => regs t 5 0 0 0xFD 0x20 0x0002 2 && t.busClockCounter == 25 && t.ppuCycle == 25) = true := by
  decide

/-- A host action in the script is the step, and is used up. -/
theorem test_script_is_performed_first :
    after (step { State.reset with script := [.clearFrameComplete, .nmi], frameComplete := true })
      (fun t => t.frameComplete == false && decide (t.script = [.nmi]) && t.cycles == 8) = true := by decide

/-! ### Memory, cartridge, disassembler -/

/-- V12: what an address reads, by the cell that was written to. -/
theorem test_bus_map :
    ([(0x0000, .ram 0), (0x07FF, .ram 0x7FF), (0x0800, .ram 0), (0x1234, .ram 0x234), (0x1FFF, .ram 0x7FF),
      (0x2000, .ppuReg 0), (0x2007, .ppuReg 7), (0x2008, .ppuReg 0), (0x30FF, .ppuReg 7),
      (0x3FFF, .ppuReg 7), (0x4000, .unmapped), (0x4017, .unmapped), (0x6000, .unmapped),
      (0x7FFF, .unmapped), (0x8000, .prg 0), (0xBFFF, .prg 0x3FFF), (0xC000, .prg 0), (0xFFFC, .prg 0x3FFC),
      (0xFFFF, .prg 0x3FFF)] : List (Word × Target)).all
      (fun (a, k) => decide (busDecode (start []) a = .ok k)) = true := by decide

/-- V13: two and four program banks. -/
theorem test_mapper_two_banks :
    mapCpu (header 2 1) 0x8000 = some 0 ∧ mapCpu (header 2 1) 0xC000 = some 0x4000 ∧
    mapCpu (header 2 1) 0xFFFC = some 0x7FFC ∧ mapCpu (header 4 1) 0xC000 = some 0x4000 ∧
    mapCpu (header 1 1) 0x7FFF = none := by decide

/-- V13: the picture unit's side. -/
theorem test_mapper_picture_side :
    mapPpuRead 0x0000 = some 0 ∧ mapPpuRead 0x1FFF = some 0x1FFF ∧ mapPpuRead 0x2000 = none ∧
    mapPpuWrite (header 1 1) 0x1000 = none ∧ mapPpuWrite (header 1 0) 0x1000 = some 0x1000 := by decide

/-- V1: a store to program memory with `PRG_WRITABLE` either way, and one to an unmapped address. -/
theorem test_stores_by_region :
    after (cpuClock { start [0x8D, 0x00, 0x80] with a := 0xEA })
      (fun t => reads t 0x8000 0xEA && reads t 0xC000 0xEA) = true ∧
    after (cpuClock { start [0x8D, 0x00, 0x80] with a := 0xEA, cfg := { prgWritable := false } })
      (fun t => reads t 0x8000 0x8D) = true ∧
    after (cpuClock { start [0x8D, 0x00, 0x40] with a := 0x3E })
      (fun t => reads t 0x4000 0x00 && decide (t.ram = [])) = true := by decide

/-- 20_memory R71: a cartridge of mapper 1 faults every access, RAM addresses too. -/
def unsupportedMapper : State :=
  { State.reset with cycles := 0, cart := some { header := { header 1 1 with mapperOne := 0x10 }, prg := [], chr := [] } }

theorem test_unsupported_mapper_faults :
    faults (perform (.busRead 0x0000 true) unsupportedMapper) (.mapperUnavailable 0x0000) = true ∧
    faults (perform (.busWrite 0x0000 1) unsupportedMapper) (.mapperUnavailable 0x0000) = true ∧
    faults (perform (.ppuRead 0x1000 true) unsupportedMapper) (.mapperUnavailable 0x1000) = true ∧
    faults (cpuClock unsupportedMapper) (.mapperUnavailable 0x0000) = true := by decide

/-- V14: a mapper id has its high nibble in byte 7; bit 2 of byte 6, not of byte 7, is the trainer's. -/
theorem test_header_fields :
    Header.mapperId { header 1 1 with mapperOne := 0x20, mapperTwo := 0x40 } = 0x42 ∧
    Header.trainerPresent { header 1 1 with mapperOne := 0x04 } = true ∧
    Header.trainerPresent { header 1 1 with mapperTwo := 0x04 } = false ∧
    Header.imageBase { header 1 1 with mapperOne := 0x04 } = 528 := by decide

/-- V14: fifteen bytes are no header, and a header with no program bank is refused. -/
theorem test_load_errors :
    loadCartridge (List.replicate 15 0x4E) = .error .readError ∧
    loadCartridge [0x4E, 0x45, 0x53, 0x1A, 0, 1, 0, 0, 0, 0, 0, 0, 0, 0, 0, 0] = .error .noProgramBanks :=
  ⟨rfl, rfl⟩

/-- The file of a one-bank cartridge with character RAM: its header, one program byte and zeros. -/
def oneBankFile (length : Nat) : List Byte :=
  [0x4E, 0x45, 0x53, 0x1A, 1, 0, 0, 0, 0, 0, 0, 0, 0, 0, 0, 0, 0xA9] ++ List.replicate length 0

/-- V14: the load succeeds at exactly the declared length. -/
theorem test_load_length :
    (∃ c, loadCartridge (oneBankFile 16383) = .ok c) ∧
    loadCartridge (oneBankFile 16382) = .error .readError := by
  have hl (n : Nat) : (oneBankFile n).length = 17 + n := by
    simp only [oneBankFile, List.length_append, List.length_replicate, List.length_cons, List.length_nil]
  have hp (n : Nat) : parseHeader (oneBankFile n) = some (header 1 0) := rfl
  constructor
  · simp only [loadCartridge, hp, hl]
    rw [if_neg (by decide), if_neg (by decide)]
    exact ⟨_, rfl⟩
  · simp only [loadCartridge, hp, hl]
    rw [if_neg (by decide), if_pos (by decide)]

/-- V16, two lines: an absolute operand, and a branch with its target. -/
theorem test_disassembly :
    disassemble (startAt 0x8010 [0x6D, 0x01, 0x00, 0x88, 0xD0, 0xFA]) 0x8010 0x8014 =
      .ok [['$', '8', '0', '1', '0', ':', ' ', 'A', 'D', 'C', ' ', '$', '0', '0', '0', '1', ' ',
            Char.ofNat 123, 'A', 'B', 'S', Char.ofNat 125],
           ['$', '8', '0', '1', '3', ':', ' ', 'D', 'E', 'Y', ' ', ' ',
            Char.ofNat 123, 'I', 'M', 'P', Char.ofNat 125],
           ['$', '8', '0', '1', '4', ':', ' ', 'B', 'N', 'E', ' ', '$', 'F', 'A', ' ', '[', '$', '8', '0', '1',
            '0', ']', ' ', Char.ofNat 123, 'R', 'E', 'L', Char.ofNat 125]] := by decide

/-- The memory of the reset state, and of a cartridge's, is in canonical form. -/
theorem test_reset_memory_wf :
    State.reset.ram.wf = true ∧ State.reset.ppuReg.wf = true ∧ State.reset.cart = none := by decide
/-! ### Witnesses: for each statement with hypotheses, states and operands that meet all of them together -/

/-- A run in the middle: every register and most flags set, one program bank, NOPs at PC. -/
def sample : State :=
  { start [0xEA, 0xEA, 0xEA] with
    a := 0x80, x := 0xFF, y := 0x01, sp := 0x01, p := 0xEB, ram := [(0x00, 0xFF), (0xFF, 0x80)] }

/-- The same with IRQ masked. -/
def sampleMasked : State := { sample with p := 0xEF }

theorem sample_ready : busReady sample = true ∧ busReady sampleMasked = true := by decide

theorem sample_inv : MachineInv sample ∧ MachineInv sampleMasked := by
  constructor <;>
    exact {
      unusedSet := by decide
      ramCanonical := by decide
      ramWithin := by decide
      ppuRegCanonical := by decide
      ppuRegWithin := by decide
      cartWf := fun c h => by cases h; decide
      ppuCycleRange := by decide
      ppuScanlineLow := by decide
      ppuScanlineHigh := by decide
      scriptWf := nofun }

/-- A check that passes names a next state. -/
theorem next_of_after {o : Host.Outcome State Fault Refusal} (h : after o (fun _ => true) = true) :
    ∃ t, o = .next t := by
  cases o with
  | next t => exact ⟨t, rfl⟩
  | fault f => cases h
  | refused r => cases h

theorem witness_EncodeInvertsDecode :
    decode [0xBD, 0xFF, 0x12, 0x60] = .ok (.ldaAbx 0x12FF, [0x60]) ∧ decode [0x02] = .ok (.ill02, []) :=
  ⟨rfl, rfl⟩

theorem witness_AssemblerMakesTheDocumentedInstructions :
    assemble .JMP (.ind 0x30FF) = some (.jmpInd 0x30FF) ∧ documented (.jmpInd 0x30FF) = true ∧
    assemble .BRK .imp = some .brkImp ∧ documented .brkImp = true := by decide

theorem witness_StepRunsTheDecodedInstruction :
    sample.script = [] ∧ callsBeforeFetch sample = 0 ∧ busRead sample sample.pc true = .ok 0xEA ∧
    busRead sample (sample.pc + 1) true = .ok 0xEA ∧ busRead sample (sample.pc + 2) true = .ok 0xEA ∧
    decode [0xEA, 0xEA, 0xEA] = .ok (.nopImp, [0xEA, 0xEA]) := by decide

theorem witness_StepTakesThreeCallsForEachTick : sample.script = [] ∧ ∃ t, step sample = .next t :=
  ⟨rfl, next_of_after (by decide)⟩

/-- The largest zero-page operand: the IZX pointer wraps with X, the IZY pointer's second byte wraps to 0. -/
theorem witness_ZeroPagePointersWrapInPageZero :
    busRead sample (BitVec.ofNat 16 (((0xFF : Byte).toNat + sample.x.toNat) % 256)) true = .ok 0x00 ∧
    busRead sample (BitVec.ofNat 16 (((0xFF : Byte).toNat + sample.x.toNat + 1) % 256)) true = .ok 0x80 ∧
    busRead sample (BitVec.ofNat 16 (0xFF : Byte).toNat) true = .ok 0x80 ∧
    busRead sample (BitVec.ofNat 16 (((0xFF : Byte).toNat + 1) % 256)) true = .ok 0xFF := by decide

/-- Both branches of the address of the high byte: pointers ending in 0xFF and in 0xFE. -/
theorem witness_IndirectPointerStaysInItsPage :
    (busRead sample 0x00FF true = .ok 0x80 ∧
      busRead sample (BitVec.ofNat 16 (if (0x00FF : Word).toNat % 256 = 255
        then (0x00FF : Word).toNat / 256 * 256 else (0x00FF : Word).toNat + 1)) true = .ok 0xFF) ∧
    (busRead sample 0x00FE true = .ok 0x00 ∧
      busRead sample (BitVec.ofNat 16 (if (0x00FE : Word).toNat % 256 = 255
        then (0x00FE : Word).toNat / 256 * 256 else (0x00FE : Word).toNat + 1)) true = .ok 0x80) := by
  decide

/-- With and without a page cross: bases 0x1201 and 0x1200, X = 0xFF. -/
theorem witness_ExtraCycleNeedsModeAndRoutine :
    (assemble .LDA (.abx 0x1201) = some (.ldaAbx 0x1201) ∧ modeOf (.abx 0x1201) ≠ .REL ∧
      addressOf (.ldaAbx 0x1201) sample = .ok (0x1300, true) ∧
      ∃ t, exec (.ldaAbx 0x1201) sample = .next t) ∧
    (assemble .STA (.abx 0x1200) = some (.staAbx 0x1200) ∧ modeOf (.abx 0x1200) ≠ .REL ∧
      addressOf (.staAbx 0x1200) sample = .ok (0x12FF, false) ∧
      ∃ t, exec (.staAbx 0x1200) sample = .next t) :=
  ⟨⟨rfl, by decide, by decide, next_of_after (by decide)⟩,
    ⟨rfl, by decide, by decide, next_of_after (by decide)⟩⟩

theorem witness_LoadsTakeTheOperand :
    assemble .LDA (.izy 0xFF) = some (.ldaIzy 0xFF) ∧ assemble .LDX (.zpy 0xFF) = some (.ldxZpy 0xFF) ∧
    assemble .LDY (.abx 0xFFFF) = some (.ldyAbx 0xFFFF) ∧ busReady sample = true := by decide

/-- The clauses by region, at the ends of the regions. -/
theorem witness_LoadsTakeTheOperand_regions :
    (∀ w, assemble .LDA (.abs w) = some (.ldaAbs w) ∧ addressOf (.ldaAbs w) sample = .ok (w, false) ∧
      modeOf (.abs w) ≠ .IMM) ∧ busReady sample = true ∧
    (0x2000 ≤ (0x2000 : Word).toNat ∧ (0x3FFF : Word).toNat < 0x4000) ∧
    (0x4000 ≤ (0x4000 : Word).toNat ∧ (0x7FFF : Word).toNat < 0x8000) :=
  ⟨fun _ => ⟨rfl, rfl, nofun⟩, sample_ready.1, by decide, by decide⟩

theorem witness_StoresWriteTheRegister :
    (sample.a = (if Mnemonic.STA = .STA then sample.a else if Mnemonic.STA = .STX then sample.x else sample.y) ∧
      assemble .STA (.izx 0xFF) = some (.staIzx 0xFF) ∧ assemble .STX (.zpy 0xFF) = some (.stxZpy 0xFF) ∧
      assemble .STY (.abs 0xFFFF) = some (.styAbs 0xFFFF) ∧ busReady sample = true) ∧ MachineInv sample :=
  ⟨by decide, sample_inv.1⟩

/-- The clauses by region, at the ends of the regions. -/
theorem witness_StoresWriteTheRegister_regions :
    (∀ w, assemble .STA (.abs w) = some (.staAbs w) ∧ addressOf (.staAbs w) sample = .ok (w, false)) ∧
    busReady sample = true ∧
    ((0x0000 : Word).toNat < 0x2000 ∧ (0x1FFF : Word).toNat < 0x2000) ∧
    (0x2000 ≤ (0x2000 : Word).toNat ∧ (0x3FFF : Word).toNat < 0x4000) ∧
    (0x4000 ≤ (0x4000 : Word).toNat ∧ (0x7FFF : Word).toNat < 0x8000) ∧
    (0x8000 ≤ (0x8000 : Word).toNat ∧ 0x8000 ≤ (0xFFFF : Word).toNat ∧ sample.cfg.prgWritable = true ∧
      after (exec (.staAbs 0x8000) sample) (fun t => t.cart.isSome) = true) :=
  ⟨fun _ => ⟨rfl, rfl⟩, sample_ready.1, by decide, by decide, by decide, by decide⟩

theorem witness_TransfersCopyARegister :
    assemble .TAX .imp = some .taxImp ∧ assemble .TAY .imp = some .tayImp ∧
    assemble .TSX .imp = some .tsxImp ∧ assemble .TXA .imp = some .txaImp ∧
    assemble .TXS .imp = some .txsImp ∧ assemble .TYA .imp = some .tyaImp := by decide

theorem witness_AdcAddsWithCarry :
    assemble .ADC (.imm 0xFF) = some (.adcImm 0xFF) ∧ assemble .ADC (.aby 0xFFFF) = some (.adcAby 0xFFFF) ∧
    busReady sample = true := by decide

theorem witness_SbcSubtractsWithBorrow :
    assemble .SBC (.imm 0xFF) = some (.sbcImm 0xFF) ∧ assemble .SBC (.izx 0xFF) = some (.sbcIzx 0xFF) ∧
    busReady sample = true := by decide

theorem witness_LogicWorksBitByBit :
    assemble .AND (.imm 0x00) = some (.andImm 0x00) ∧ assemble .ORA (.izy 0xFF) = some (.oraIzy 0xFF) ∧
    assemble .EOR (.abx 0xFFFF) = some (.eorAbx 0xFFFF) ∧ busReady sample = true := by decide

theorem witness_BitTestsTheOperand :
    assemble .BIT (.zp0 0xFF) = some (.bitZp0 0xFF) ∧ assemble .BIT (.abs 0xFFFF) = some (.bitAbs 0xFFFF) ∧
    busReady sample = true := by decide

theorem witness_ComparesSetCarryZeroNegative :
    assemble .CMP (.izy 0xFF) = some (.cmpIzy 0xFF) ∧ assemble .CPX (.imm 0xFF) = some (.cpxImm 0xFF) ∧
    assemble .CPY (.abs 0xFFFF) = some (.cpyAbs 0xFFFF) ∧ busReady sample = true ∧
    (0x80 : Byte) = (if Mnemonic.CMP = .CMP then sample.a else if Mnemonic.CMP = .CPX then sample.x
      else sample.y) := by decide

theorem witness_MemoryIncrementAndDecrement :
    (assemble .INC (.abx 0xFFFF) = some (.incAbx 0xFFFF) ∧ assemble .DEC (.zpx 0xFF) = some (.decZpx 0xFF) ∧
      busReady sample = true) ∧ MachineInv sample := ⟨by decide, sample_inv.1⟩

theorem witness_RegisterIncrementAndDecrement :
    assemble .INX .imp = some .inxImp ∧ assemble .INY .imp = some .inyImp ∧
    assemble .DEX .imp = some .dexImp ∧ assemble .DEY .imp = some .deyImp := by decide

theorem witness_AccumulatorShifts :
    assemble .ASL .imp = some .aslImp ∧ assemble .LSR .imp = some .lsrImp ∧
    assemble .ROL .imp = some .rolImp ∧ assemble .ROR .imp = some .rorImp ∧
    shiftResult .ROR sample.a.toNat (sample.flag .C).toNat = (0xC0, false) := by decide

theorem witness_MemoryShifts :
    (assemble .ASL (.zp0 0xFF) = some (.aslZp0 0xFF) ∧ assemble .LSR (.zpx 0xFF) = some (.lsrZpx 0xFF) ∧
      assemble .ROL (.abs 0xFFFF) = some (.rolAbs 0xFFFF) ∧
      assemble .ROR (.abx 0xFFFF) = some (.rorAbx 0xFFFF) ∧ Form.abx 0xFFFF ≠ .imp ∧
      busReady sample = true) ∧ MachineInv sample := ⟨by decide, sample_inv.1⟩

/-- The largest offsets backward and forward. -/
theorem witness_BranchesGoOnTheirCondition :
    assemble .BCC (.rel 0x80) = some (.bccRel 0x80) ∧ assemble .BCS (.rel 0x7F) = some (.bcsRel 0x7F) ∧
    assemble .BEQ (.rel 0xFE) = some (.beqRel 0xFE) ∧ assemble .BMI (.rel 0x00) = some (.bmiRel 0x00) ∧
    assemble .BNE (.rel 0xFF) = some (.bneRel 0xFF) ∧ assemble .BPL (.rel 0x80) = some (.bplRel 0x80) ∧
    assemble .BVC (.rel 0x7F) = some (.bvcRel 0x7F) ∧ assemble .BVS (.rel 0x80) = some (.bvsRel 0x80) ∧
    (0x7F82 : Word) = BitVec.ofInt 16 (sample.pc.toNat + 2 + (0x80 : Byte).toInt) := by decide

theorem witness_JumpTakesTheAddress :
    assemble .JMP (.abs 0xFFFF) = some (.jmpAbs 0xFFFF) ∧ assemble .JMP (.ind 0x00FF) = some (.jmpInd 0x00FF) ∧
    busReady sample = true := by decide

theorem witness_CallPushesTheReturnAddress : busReady sample = true ∧ MachineInv sample :=
  ⟨sample_ready.1, sample_inv.1⟩

theorem witness_ReturnPullsTheAddress : busReady sample = true := sample_ready.1

theorem witness_PushesStoreOneByte :
    (assemble .PHA .imp = some .phaImp ∧ assemble .PHP .imp = some .phpImp ∧ busReady sample = true) ∧
    MachineInv sample := ⟨by decide, sample_inv.1⟩

theorem witness_PullsLoadOneByte :
    assemble .PLA .imp = some .plaImp ∧ assemble .PLP .imp = some .plpImp ∧ busReady sample = true := by
  decide

theorem witness_FlagInstructionsWriteOneFlag :
    (flagWritten .CLC = some (.C, false) ∧ assemble .CLC .imp = some .clcImp) ∧
    (flagWritten .CLD = some (.D, false) ∧ assemble .CLD .imp = some .cldImp) ∧
    (flagWritten .CLI = some (.I, false) ∧ assemble .CLI .imp = some .cliImp) ∧
    (flagWritten .CLV = some (.V, false) ∧ assemble .CLV .imp = some .clvImp) ∧
    (flagWritten .SEC = some (.C, true) ∧ assemble .SEC .imp = some .secImp) ∧
    (flagWritten .SED = some (.D, true) ∧ assemble .SED .imp = some .sedImp) ∧
    (flagWritten .SEI = some (.I, true) ∧ assemble .SEI .imp = some .seiImp) := by decide

theorem witness_BrkEntersTheHandler :
    (busReady sampleMasked = true ∧ (0x8002 : Word) = sampleMasked.pc + sampleMasked.cfg.brkReturnOffset) ∧
    MachineInv sampleMasked := ⟨by decide, sample_inv.2⟩

theorem witness_RtiRestoresStatusAndPc : busReady sample = true := sample_ready.1

theorem witness_IllegalOpcodesAreOneByteNoOps :
    documented .ill02 = false ∧ documented .illFF = false ∧ sample.cfg.illegalOverrides = [] := by decide

theorem witness_IllegalOpcodesNeverChangeDataWhateverTheTable :
    documented .illEB = false ∧
    busReady (replaced [0x1C, 0xF0, 0x02]) = true ∧ documented .ill1C = false ∧
    replacedEntry (replaced [0x1C, 0xF0, 0x02]).cfg (opcodeOf .ill1C) =
      some { opcode := 0x1C, name := ['T', 'O', 'P'], mode := .ABX, baseCycles := 4, routine := .nop } := by
  decide

/-- One state for each clause: IRQ masked, and IRQ let in. -/
theorem witness_IrqEntersTheHandlerUnlessMasked :
    sampleMasked.flag .I = true ∧ sample.flag .I = false ∧ busReady sample = true ∧ MachineInv sample :=
  ⟨by decide, by decide, sample_ready.1, sample_inv.1⟩

theorem witness_NmiEntersTheHandler : busReady sampleMasked = true ∧ MachineInv sampleMasked :=
  ⟨sample_ready.2, sample_inv.2⟩

theorem witness_RtiUndoesInterruptEntry :
    (sample.flag .I = false ∧ busReady sample = true ∧ MachineInv sample ∧
      ∃ t, perform .irq sample = .next t) ∧
    (busReady sampleMasked = true ∧ MachineInv sampleMasked ∧
      ∃ t, perform .nmi sampleMasked = .next t) :=
  ⟨⟨by decide, sample_ready.1, sample_inv.1, next_of_after (by decide)⟩,
    ⟨sample_ready.2, sample_inv.2, next_of_after (by decide)⟩⟩

theorem witness_ResetsSetTheRegisters : busReady sample = true := sample_ready.1

/-- Each clause: inside a line, at its end, and at the end of the frame. -/
theorem witness_PpuClockCountsDotsAndLines :
    (∃ t, perform .ppuClock { sample with ppuCycle := 339, ppuScanline := 260 } = .next t) ∧
    (∃ t, perform .ppuClock { sample with ppuCycle := 340, ppuScanline := 259 } = .next t) ∧
    (∃ t, perform .ppuClock { sample with ppuCycle := 340, ppuScanline := 260 } = .next t) :=
  ⟨⟨_, rfl⟩, ⟨_, rfl⟩, ⟨_, rfl⟩⟩

theorem witness_FrameIsEightyNineThousandTicks :
    ({ sample with ppuCycle := 340, ppuScanline := 260 } : State).ppuCycle ≤ 340 ∧
    -1 ≤ ({ sample with ppuCycle := 340, ppuScanline := 260 } : State).ppuScanline ∧
    ({ sample with ppuCycle := 340, ppuScanline := 260 } : State).ppuScanline ≤ 260 := by decide

theorem witness_ThreeBusClocksTickTheCpuOnce :
    sample.busClockCounter % 3 = 0 ∧ ({ sample with busClockCounter := 3 } : State).busClockCounter % 3 = 0 := by
  decide

/-- No cartridge, one program bank and two of them; the ends of every window; and the RAM mirrors. -/
theorem witness_AddressMapIsDecoded :
    busReady State.reset = true ∧ busReady sample = true ∧
    busReady { sample with cart := some { header := header 2 1, prg := [], chr := [] } } = true ∧
    (0x1FFF : Word).toNat < 0x2000 ∧ ¬ (0x2000 : Word).toNat < 0x2000 ∧
    (0x1800 : Word) ∈ [(0x0800 : Word), 0x1000, 0x1800] := by decide

theorem witness_UnsupportedCartridgeFaultsEveryAccess :
    busReady unsupportedMapper = false ∧ unsupportedMapper.cycles = 0 := by decide

/-- A RAM address, and with it each other kind of cell: the hypotheses do not limit the address. -/
theorem witness_BusWriteChangesOneByte : busReady sample = true ∧ MachineInv sample :=
  ⟨sample_ready.1, sample_inv.1⟩

theorem witness_StackGivesBackWhatWasPushed :
    busReady sample = true ∧ MachineInv sample ∧ (List.replicate 256 (0xFF : Byte)).length ≤ 256 :=
  ⟨sample_ready.1, sample_inv.1, by rw [List.length_replicate]⟩

/-- An empty slot, character ROM, and character RAM. -/
theorem witness_PictureUnitBusReachesCharacterMemory :
    ({ sample with cart := none } : State).cart = none ∧ busReady { sample with cart := none } = true ∧
    MachineInv { sample with cart := none } ∧
    (∃ c, sample.cart = some c ∧ c.header.chrBanks = 1 ∧ busReady sample = true ∧ MachineInv sample) ∧
    ∃ c, ({ sample with cart := some { header := header 1 0, prg := [], chr := [(0x1FFF, 7)] } } : State).cart =
        some c ∧ c.header.chrBanks = 0 ∧
      busReady { sample with cart := some { header := header 1 0, prg := [], chr := [(0x1FFF, 7)] } } = true ∧
      MachineInv { sample with cart := some { header := header 1 0, prg := [], chr := [(0x1FFF, 7)] } } :=
  ⟨rfl, rfl, { sample_inv.1 with cartWf := nofun }, ⟨_, rfl, rfl, sample_ready.1, sample_inv.1⟩,
    ⟨_, rfl, rfl, by decide, { sample_inv.1 with cartWf := fun c h => by cases h; decide }⟩⟩

/-- A file that loads, of exactly the declared length, and one too short by a byte. -/
theorem witness_LoadedCartridgeHoldsTheFile :
    (∃ c, loadCartridge (oneBankFile 16383) = .ok c) ∧
    loadCartridge (oneBankFile 16382) = .error .readError := test_load_length

theorem witness_StepKeepsTheInvariant : MachineInv sample ∧ ∃ t, step sample = .next t :=
  ⟨sample_inv.1, next_of_after (by decide)⟩

/-- The default parameters, and others at the ends of their ranges. -/
theorem witness_PowerOnThenResetMeetsTheInvariant :
    ConfigOk {} ∧ ConfigOk { ramInit := [(2047, 0xFF)], ppuInitCycle := 340, ppuInitScanline := -1 } :=
  ⟨⟨by decide, by decide, by decide, by decide, by decide⟩,
    ⟨by decide, by decide, by decide, by decide, by decide⟩⟩

/-- The largest count. -/
theorem witness_StepKeepsTheCycleBound :
    cyclesBounded { sample with cycles := 8 } ∧ ∃ t, step { sample with cycles := 8 } = .next t :=
  ⟨⟨rfl, by decide⟩, next_of_after (by decide)⟩

/-- With no action pending, and with a supported cartridge about to be inserted. -/
theorem witness_SupportedMachineNeverStops :
    supported sample ∧
    supported { State.reset with script := [.insertCartridge { header := header 1 1, prg := [], chr := [] }] } := by
  refine ⟨⟨by decide, nofun⟩, by decide, fun c h => ?_⟩
  rcases List.mem_cons.mp h with h | h
  · cases h; decide
  · cases h

/-- An instruction, an IRQ let in, and an NMI. -/
theorem witness_NothingReadsTheLiveBreakBit :
    (∃ t, exec .phpImp sample = .next t) ∧ sample.flag .I = false ∧ (∃ t, perform .irq sample = .next t) ∧
    ∃ t, perform .nmi sampleMasked = .next t :=
  ⟨next_of_after (by decide), by decide, next_of_after (by decide), next_of_after (by decide)⟩

theorem witness_DecimalFlagIsIgnored :
    (assemble .ADC (.imm 0x99) = some (.adcImm 0x99) ∧ ∃ t, exec (.adcImm 0x99) sample = .next t) ∧
    (assemble .SBC (.izy 0xFF) = some (.sbcIzy 0xFF) ∧ ∃ t, exec (.sbcIzy 0xFF) sample = .next t) :=
  ⟨⟨rfl, next_of_after (by decide)⟩, ⟨rfl, next_of_after (by decide)⟩⟩

end Sys2Proof.Tests
end

section
/-! SUPPORT. What each host action leaves when it completes, and the rule by which a property that the
machine's operations keep is kept by every step. -/

namespace Sys2Proof.Machine

/-! ### What an action leaves when it completes -/

theorem outcomeOf_next {r : Except Fault State} {t : State} (h : outcomeOf r = .next t) : r = .ok t := by
  cases r with
  | error f => cases h
  | ok u => exact congrArg _ (Host.Outcome.next.inj h)

/-- An action that only returns something to the host leaves the state as it was. -/
theorem observed_next {α : Type} {s t : State} {r : Except Fault α} (h : observed s r = .next t) :
    t = s := by
  cases r with
  | error f => cases h
  | ok a => exact (Host.Outcome.next.inj h).symm

/-- A CPU tick waits, or runs one instruction (40_execution R140). -/
theorem cpuClock_next {s t : State} (h : cpuClock s = .next t) :
    t = { s with cycles := s.cycles - 1, isCompleteCycle := false } ∨ ∃ i, exec i s = .next t := by
  unfold cpuClock at h
  split at h
  · split at h
    · exact .inr ⟨_, h⟩
    · cases h
  · exact .inl (Host.Outcome.next.inj h).symm

/-- A bus tick is a picture-unit tick, at times a CPU tick, and the count (60_exceptions R289). -/
theorem busClock_next {s t : State} (h : busClock s = .next t) :
    t = countBusClock (ppuClock s) ∨ ∃ u, cpuClock (ppuClock s) = .next u ∧ t = countBusClock u := by
  simp only [busClock] at h
  split at h
  · split at h <;> cases h
    exact .inr ⟨_, ‹_›, rfl⟩
  · exact .inl (Host.Outcome.next.inj h).symm

theorem irq_ok {s t : State} (h : irq s = .ok t) :
    t = s ∨ ∃ u, takeException s false s.pc irqVector = .ok u ∧
      t = { u with addrAbs := irqVector, cycles := 7 } := by
  unfold irq at h
  split at h
  · exact .inl (Except.ok.inj h).symm
  · obtain ⟨u, hu, h⟩ := bind_ok h
    exact .inr ⟨u, hu, (Except.ok.inj h).symm⟩

theorem nmi_ok {s t : State} (h : nmi s = .ok t) :
    ∃ u, takeException s false s.pc nmiVector = .ok u ∧
      t = { u with addrAbs := nmiVector, cycles := 8 } := by
  obtain ⟨u, hu, h⟩ := bind_ok h
  exact ⟨u, hu, (Except.ok.inj h).symm⟩

theorem cpuReset_ok {s t : State} (h : cpuReset s = .ok t) :
    ∃ target, t = { s with a := 0, x := 0, y := 0, sp := 0xFD, p := 0x20, pc := target,
                           addrAbs := 0, addrRel := 0, fetched := 0, cycles := 8 } := by
  obtain ⟨target, -, h⟩ := bind_ok h
  exact ⟨target, (Except.ok.inj h).symm⟩

theorem busReset_ok {s t : State} (h : busReset s = .ok t) :
    ∃ u, cpuReset s = .ok u ∧ t = { u with busClockCounter := 0 } := by
  obtain ⟨u, hu, h⟩ := bind_ok h
  exact ⟨u, hu, (Except.ok.inj h).symm⟩

/-- Mapper 0 claims a picture-unit write only inside the character memory, which has at least one bank
(10_state R43, 20_memory R70). -/
theorem mapPpuWrite_lt {h : Header} {a : Word} {off : Nat} (hm : mapPpuWrite h a = some off) :
    off < h.chrSize := by
  unfold mapPpuWrite at hm
  split at hm
  · obtain rfl := Option.some.inj hm
    unfold Header.chrSize
    omega
  · cases hm

/-- A picture-unit write is dropped, or stored in the character memory of the cartridge at an offset that
mapper 0 claims (20_memory R70, R72). -/
theorem ppuWrite_ok {s t : State} {a : Word} {v : Byte} (h : ppuWrite s a v = .ok t) :
    t = s ∨ ∃ c off, s.cart = some c ∧ off < c.header.chrSize ∧
      t = { s with cart := some { c with chr := c.chr.write off v } } := by
  simp only [ppuWrite] at h
  split at h
  · exact .inl (Except.ok.inj h).symm
  · split at h
    · cases h
    · split at h
      · refine .inr ⟨_, _, ‹_›, mapPpuWrite_lt ‹_›, (Except.ok.inj h).symm⟩
      · exact .inl (Except.ok.inj h).symm

/-! ### A property that every operation keeps is kept by every step -/

/-- Every operation that a step is made of keeps `P`; inserting a cartridge apart, which depends on the
cartridge, and the script, which a step shortens. -/
structure KeptByOperations (P : State → Prop) : Prop where
  exec : ∀ {i s t}, P s → exec i s = .next t → P t
  wait : ∀ {s}, P s → P { s with cycles := s.cycles - 1, isCompleteCycle := false }
  ppuClock : ∀ {s}, P s → P (ppuClock s)
  countBusClock : ∀ {s}, P s → P (countBusClock s)
  clearFrameComplete : ∀ {s}, P s → P (clearFrameComplete s)
  irq : ∀ {s t}, P s → irq s = .ok t → P t
  nmi : ∀ {s t}, P s → nmi s = .ok t → P t
  cpuReset : ∀ {s t}, P s → cpuReset s = .ok t → P t
  zeroBusClock : ∀ {s}, P s → P { s with busClockCounter := 0 }
  busWrite : ∀ {s t a v}, P s → busWrite s a v = .ok t → P t
  ppuWrite : ∀ {s t a v}, P s → ppuWrite s a v = .ok t → P t

section
variable {P : State → Prop} (hP : KeptByOperations P) {s t : State}
include hP

theorem KeptByOperations.cpuClock (hs : P s) (h : cpuClock s = .next t) : P t := by
  rcases cpuClock_next h with rfl | ⟨i, hi⟩
  · exact hP.wait hs
  · exact hP.exec hs hi

theorem KeptByOperations.busClock (hs : P s) (h : busClock s = .next t) : P t := by
  rcases busClock_next h with rfl | ⟨u, hu, rfl⟩
  · exact hP.countBusClock (hP.ppuClock hs)
  · exact hP.countBusClock (hP.cpuClock (hP.ppuClock hs) hu)

theorem KeptByOperations.busClocks {n : Nat} (hs : P s) (h : busClocks n s = .next t) : P t := by
  induction n generalizing s with
  | zero => exact Host.Outcome.next.inj h ▸ hs
  | succ n ih =>
    simp only [Machine.busClocks] at h
    split at h
    · exact ih (hP.busClock hs ‹_›) h
    · cases h
    · cases h

theorem KeptByOperations.perform {act : HostAction} (hs : P s)
    (hi : ∀ c, act = .insertCartridge c → P (insertCartridge c s)) (h : perform act s = .next t) :
    P t := by
  cases act with
  | stepInstruction => exact hP.busClocks hs h
  | busClock => exact hP.busClock hs h
  | busReset =>
    obtain ⟨u, hu, rfl⟩ := busReset_ok (outcomeOf_next h)
    exact hP.zeroBusClock (hP.cpuReset hs hu)
  | cpuClock => exact hP.cpuClock hs h
  | cpuReset => exact hP.cpuReset hs (outcomeOf_next h)
  | irq => exact hP.irq hs (outcomeOf_next h)
  | nmi => exact hP.nmi hs (outcomeOf_next h)
  | ppuClock => exact Host.Outcome.next.inj h ▸ hP.ppuClock hs
  | clearFrameComplete => exact Host.Outcome.next.inj h ▸ hP.clearFrameComplete hs
  | insertCartridge c => exact Host.Outcome.next.inj h ▸ hi c rfl
  | busWrite a v => exact hP.busWrite hs (outcomeOf_next h)
  | ppuWrite a v => exact hP.ppuWrite hs (outcomeOf_next h)
  | busRead a ro => exact observed_next h ▸ hs
  | ppuRead a ro => exact observed_next h ▸ hs
  | disassemble start stop => exact observed_next h ▸ hs
  | loadCartridge bytes => exact Host.Outcome.next.inj h ▸ hs
  | snapshot => exact Host.Outcome.next.inj h ▸ hs

/-- The rule for a step, which performs the first action of the script in the state with the rest of it. -/
theorem KeptByOperations.step (hs : P s)
    (hscript : ∀ act rest, s.script = act :: rest → P { s with script := rest } ∧
      ∀ c, act = .insertCartridge c → P (Machine.insertCartridge c { s with script := rest }))
    (h : step s = .next t) : P t := by
  unfold Machine.step nextAction at h
  split at h
  · exact hP.perform (act := .stepInstruction) hs nofun h
  · obtain ⟨hrest, hins⟩ := hscript _ _ ‹_›
    exact hP.perform hrest hins h

end

end Sys2Proof.Machine
end

section
/-! PROOFS. The machine invariant and the bound on the pending-cycle counter: every operation keeps them. -/

namespace Sys2Proof.Machine

/-! ### The invariant -/

theorem keeps_wait (s : State) : Keeps s { s with cycles := s.cycles - 1, isCompleteCycle := false } :=
  keeps_update

theorem keeps_irq {s t : State} (h : irq s = .ok t) : Keeps s t := by
  rcases irq_ok h with rfl | ⟨u, hu, rfl⟩
  · exact keeps_update
  · exact (keeps_takeException hu).1.trans keeps_update

theorem keeps_nmi {s t : State} (h : nmi s = .ok t) : Keeps s t := by
  obtain ⟨u, hu, rfl⟩ := nmi_ok h
  exact (keeps_takeException hu).1.trans keeps_update

theorem keeps_cpuReset {s t : State} (h : cpuReset s = .ok t) : Keeps s t := by
  obtain ⟨target, rfl⟩ := cpuReset_ok h
  exact .of_sameStores ⟨rfl, rfl, rfl⟩ ⟨rfl, rfl, rfl, rfl, rfl, rfl, rfl⟩ fun _ => by
    simp only [State.flag]; decide

theorem Keeps.cfg {s t : State} (h : Keeps s t) : t.cfg = s.cfg := by
  obtain ⟨-, -, -, -, hcfg, -⟩ := h.devices
  exact hcfg

/-- The picture unit's counters stay in their ranges (10_state R46, 60_exceptions R291). -/
theorem MachineInv.ppuClock {s : State} (h : MachineInv s) : MachineInv (ppuClock s) := by
  have hlow := h.ppuScanlineLow
  unfold Machine.ppuClock
  split
  · split
    · exact { h with ppuCycleRange := by simp, ppuScanlineLow := by simp, ppuScanlineHigh := by simp }
    · exact { h with
        ppuCycleRange := by simp
        ppuScanlineLow := by simp only; omega
        ppuScanlineHigh := by simp only; omega }
  · exact { h with ppuCycleRange := by simp only; omega }

/-- A picture-unit write keeps the cartridge whole: the character memory stays canonical and within the
length its header declares. -/
theorem MachineInv.ppuWrite {s t : State} {a : Word} {v : Byte} (hs : MachineInv s)
    (h : ppuWrite s a v = .ok t) : MachineInv t := by
  rcases ppuWrite_ok h with rfl | ⟨c, off, hc, hoff, rfl⟩
  · exact hs
  · refine { hs with cartWf := fun d hd => ?_ }
    obtain rfl := Option.some.inj hd
    obtain ⟨hbanks, hprg, hprg', hchr, hchr'⟩ := Cartridge.wf_iff.mp (hs.cartWf c hc)
    exact Cartridge.wf_iff.mpr ⟨hbanks, hprg, hprg', Memory.wf_write hchr off v,
      Memory.within_write v hchr' hoff⟩

theorem ppuWrite_cfg {s t : State} {a : Word} {v : Byte} (h : ppuWrite s a v = .ok t) : t.cfg = s.cfg := by
  rcases ppuWrite_ok h with rfl | ⟨c, off, -, -, rfl⟩ <;> rfl

/-- The invariant, and the parameters at a fixed value (00_scope R5). -/
def InvWithConfig (c : Config) (s : State) : Prop := MachineInv s ∧ s.cfg = c

theorem InvWithConfig.of_keeps {c : Config} {s t : State} (hs : InvWithConfig c s) (h : Keeps s t) :
    InvWithConfig c t :=
  ⟨hs.1.of_keeps h, h.cfg.trans hs.2⟩

theorem invWithConfig_kept (c : Config) : KeptByOperations (InvWithConfig c) where
  exec hs h := hs.of_keeps (exec_keeps h).1
  wait hs := hs.of_keeps (keeps_wait _)
  ppuClock hs := ⟨hs.1.ppuClock, (ppuClock_cfg _).trans hs.2⟩
  countBusClock hs := ⟨{ hs.1 with }, hs.2⟩
  clearFrameComplete hs := ⟨{ hs.1 with }, hs.2⟩
  irq hs h := hs.of_keeps (keeps_irq h)
  nmi hs h := hs.of_keeps (keeps_nmi h)
  cpuReset hs h := hs.of_keeps (keeps_cpuReset h)
  zeroBusClock hs := ⟨{ hs.1 with }, hs.2⟩
  busWrite hs h := hs.of_keeps (keeps_memWrite h)
  ppuWrite hs h := ⟨hs.1.ppuWrite h, (ppuWrite_cfg h).trans hs.2⟩

/-- Dropping the first action of the script leaves the invariant. -/
theorem MachineInv.script_tail {s : State} (hs : MachineInv s) {act : HostAction} {rest : List HostAction}
    (h : s.script = act :: rest) : MachineInv { s with script := rest } :=
  { hs with scriptWf := fun c hc => hs.scriptWf c (h ▸ List.mem_cons_of_mem act hc) }

theorem MachineInv.insertCartridge {s : State} (hs : MachineInv s) {c : Cartridge} (hc : c.wf = true) :
    MachineInv (insertCartridge c s) :=
  { hs with cartWf := fun _ hd => Option.some.inj hd ▸ hc }

/-- Settles O53: every operation keeps the invariant and the parameters, and the script inserts only whole
cartridges. -/
theorem stepKeepsTheInvariant : Obligations.StepKeepsTheInvariant := by
  unfold Obligations.StepKeepsTheInvariant
  intro s t hs h
  refine (invWithConfig_kept s.cfg).step ⟨hs, rfl⟩ (fun act rest hscript => ?_) h
  refine ⟨⟨hs.script_tail hscript, rfl⟩, ?_⟩
  rintro c rfl
  have hc : c.wf = true := hs.scriptWf c (by rw [hscript]; exact List.mem_cons_self)
  exact ⟨(hs.script_tail hscript).insertCartridge hc, rfl⟩

/-- Settles O54: the stores and the slot are empty and the counters are zero. -/
theorem resetMeetsTheInvariant : Obligations.ResetMeetsTheInvariant where
  unusedSet := by decide
  ramCanonical := rfl
  ramWithin := rfl
  ppuRegCanonical := rfl
  ppuRegWithin := rfl
  cartWf := nofun
  ppuCycleRange := by decide
  ppuScanlineLow := by decide
  ppuScanlineHigh := by decide
  scriptWf := nofun

/-! ### The pending-cycle counter -/

/-- A fetch tick that completes: its addressing routine, its opcode routine, and the end of the tick. -/
theorem tick_ok {op : Byte} {n : Nat} {f : Form} {r : Form → State → Except Fault Effect} {s t : State}
    (h : tick op n f r s = .ok t) :
    ∃ u c e, resolve f (afterOpcode op s) = .ok (u, c) ∧ r f u = .ok e ∧ t = finish n c e := by
  obtain ⟨⟨u, c⟩, hu, h⟩ := bind_ok h
  obtain ⟨e, he, h⟩ := bind_ok h
  exact ⟨u, c, e, hu, he, (Except.ok.inj h).symm⟩

/-- The mnemonics with an entry of base count 7 (30_encoding R114); their routines earn no extra cycle. -/
def baseSevenMnemonics : List Mnemonic := [.BRK, .INC, .DEC, .ASL, .LSR, .ROL, .ROR]

theorem baseCyclesOf_le {m : Mnemonic} {f : Form} {i : Instr} (h : assemble m f = some i) :
    baseCyclesOf i ≤ 6 ∨ baseCyclesOf i = 7 ∧ m ∈ baseSevenMnemonics := by
  cases m <;> cases f <;> cases h <;> (simp only [baseCyclesOf, opcodeOf]; decide)

theorem plain_of_baseSeven {m : Mnemonic} (hm : m ∈ baseSevenMnemonics) {mode : Mode} {f : Form} {s : State}
    {e : Effect} (h : routineOf (entry m mode 0) f s = .ok e) : ∃ t, e = plain t := by
  simp only [baseSevenMnemonics, List.mem_cons, List.not_mem_nil, or_false] at hm
  rcases hm with rfl | rfl | rfl | rfl | rfl | rfl | rfl
  case inl =>
    obtain ⟨t, -, h⟩ := bind_ok h
    exact ⟨t, (Except.ok.inj h).symm⟩
  all_goals
    obtain ⟨⟨t, v⟩, -, h⟩ := bind_ok h
    obtain ⟨u, -, h⟩ := bind_ok h
    exact ⟨_, (Except.ok.inj h).symm⟩

/-- A documented instruction charges at most 8 cycles: a base count of at most 6 and up to 2 more, or 7. -/
theorem cycles_of_documented {m : Mnemonic} {f : Form} {i : Instr} (ha : assemble m f = some i) {s t : State}
    (h : exec i s = .next t) : t.cycles ≤ 8 := by
  rw [exec_of_assemble ha] at h
  have htick := outcomeOf_next h
  rcases baseCyclesOf_le ha with hn | ⟨hn, hm⟩
  · obtain ⟨-, -, -, hle⟩ := tick_keeps (fun s e => routine_keeps m _ f s e) htick
    omega
  · obtain ⟨u, c, e, -, he, rfl⟩ := tick_ok htick
    obtain ⟨v, rfl⟩ := plain_of_baseSeven hm he
    simp [plain, hn]

theorem tableRow_baseCycles_le (hi : Nat) : ∀ d ∈ tableRow hi, d.baseCycles ≤ 8 := by
  unfold tableRow
  split <;> decide

theorem descriptor_baseCycles_le (op : Byte) : (descriptor op).baseCycles ≤ 8 := by
  rw [descriptor, List.getD_eq_getElem?_getD]
  cases hd : (tableRow (op.toNat / 16))[op.toNat % 16]? with
  | none => decide
  | some d => exact tableRow_baseCycles_le _ d (List.mem_of_getElem? hd)

/-- Under the default `ILLEGAL_TABLE` a stub is of mode IMP and charges its base count. -/
theorem cycles_of_stub {op : Byte} {n : Nat} {r : StubRoutine} {s t : State}
    (hcfg : s.cfg.illegalOverrides = []) (h : stub op n r s = .next t) : t.cycles = n := by
  have he : illegalEntry s.cfg op n r =
      { opcode := op, name := (descriptor op).name, mode := .IMP, baseCycles := n, routine := r } := by
    simp [illegalEntry, replacedEntry, hcfg]
  unfold stub at h
  rw [he] at h
  obtain ⟨f, hf, htick⟩ := bind_ok (outcomeOf_next h)
  obtain rfl := Except.ok.inj hf
  obtain ⟨u, c, e, hu, he', rfl⟩ := tick_ok htick
  obtain ⟨-, rfl⟩ := Prod.mk.inj (Except.ok.inj hu)
  obtain rfl := Except.ok.inj he'
  simp

theorem cyclesBounded_exec {i : Instr} {s t : State} (hs : cyclesBounded s) (h : exec i s = .next t) :
    cyclesBounded t := by
  refine ⟨(exec_keeps h).1.cfg ▸ hs.1, ?_⟩
  rcases instr_cases i with ⟨m, f, ha⟩ | ⟨r, hstub, -, -⟩
  · exact cycles_of_documented ha h
  · rw [hstub] at h
    rw [cycles_of_stub hs.1 h]
    exact descriptor_baseCycles_le _

theorem cyclesBounded_of_le {s t : State} (hs : cyclesBounded s) (hcfg : t.cfg = s.cfg) (h : t.cycles ≤ 8) :
    cyclesBounded t :=
  ⟨hcfg ▸ hs.1, h⟩

theorem cyclesBounded_kept : KeptByOperations cyclesBounded where
  exec := cyclesBounded_exec
  wait hs := ⟨hs.1, (Nat.sub_le _ _).trans hs.2⟩
  ppuClock hs := cyclesBounded_of_le hs (ppuClock_cfg _) ((ppuClock_cycles _).trans_le hs.2)
  countBusClock hs := hs
  clearFrameComplete hs := hs
  irq hs h := by
    refine cyclesBounded_of_le hs (keeps_irq h).cfg ?_
    rcases irq_ok h with rfl | ⟨u, -, rfl⟩
    · exact hs.2
    · simp
  nmi hs h := by
    refine cyclesBounded_of_le hs (keeps_nmi h).cfg ?_
    obtain ⟨u, -, rfl⟩ := nmi_ok h
    simp
  cpuReset hs h := by
    refine cyclesBounded_of_le hs (keeps_cpuReset h).cfg ?_
    obtain ⟨target, rfl⟩ := cpuReset_ok h
    simp
  zeroBusClock hs := hs
  busWrite hs h := by
    obtain ⟨-, rfl⟩ := memWrite_ok h
    exact cyclesBounded_of_le hs (writeTarget_cfg ..) ((writeTarget_cycles ..).trans_le hs.2)
  ppuWrite hs h := by
    rcases ppuWrite_ok h with rfl | ⟨c, off, -, -, rfl⟩ <;> exact hs

/-- Settles O56: an instruction charges at most 8 cycles, an interrupt entry 7 or 8, a reset 8, and nothing
else raises the count. -/
theorem stepKeepsTheCycleBound : Obligations.StepKeepsTheCycleBound := by
  unfold Obligations.StepKeepsTheCycleBound
  intro s t hs h
  exact cyclesBounded_kept.step hs (fun act rest _ => ⟨hs, fun c _ => hs⟩) h

end Sys2Proof.Machine
end

section
/-! PROOFS. A flag that nothing reads (10_state R29, R30): every shared operation commutes with setting a
flag that it neither reads nor writes, and an operation that writes the flag whatever it held forgets what it
held. The first is said of any flag, the rest of the Break bit, and of the Decimal flag in ADC and SBC. -/

namespace Sys2Proof.Machine

/-! ### One flag set after another -/

theorem setFlag_setFlag_same (p : Byte) (g : Flag) (v w : Bool) :
    setFlag (setFlag p g v) g w = setFlag p g w :=
  flags_ext fun k => by
    simp only [getFlag_setFlag]
    split <;> rfl

theorem setFlag_setFlag_comm (p : Byte) {f g : Flag} (h : f ≠ g) (v w : Bool) :
    setFlag (setFlag p g v) f w = setFlag (setFlag p f w) g v :=
  flags_ext fun k => by
    by_cases hk : k = f
    · simp [hk, h]
    · simp [hk]

theorem State.setFlag_setFlag_same (s : State) (g : Flag) (v w : Bool) :
    (s.setFlag g v).setFlag g w = s.setFlag g w :=
  congrArg (fun p => { s with p := p }) (Machine.setFlag_setFlag_same s.p g v w)

theorem State.setFlag_setFlag_comm (s : State) {f g : Flag} (h : f ≠ g) (v w : Bool) :
    (s.setFlag g v).setFlag f w = (s.setFlag f w).setFlag g v :=
  congrArg (fun p => { s with p := p }) (Machine.setFlag_setFlag_comm s.p h v w)

theorem State.flag_setFlag_other (s : State) {f g : Flag} (h : f ≠ g) (v : Bool) :
    (s.setFlag g v).flag f = s.flag f := by
  simp [State.flag, h]

/-- The flags that the result of an operation sets. -/
def resultFlags : List Flag := [.C, .Z, .V, .N]

section
variable {g : Flag} (hg : g ∉ resultFlags)
include hg

theorem State.setZN_setFlag (s : State) (v : Bool) (b : Byte) :
    (s.setFlag g v).setZN b = (s.setZN b).setFlag g v := by
  simp only [resultFlags, List.mem_cons, List.not_mem_nil, or_false, not_or] at hg
  obtain ⟨-, hz, -, hn⟩ := hg
  rw [State.setZN, s.setFlag_setFlag_comm (Ne.symm hz), State.setFlag_setFlag_comm _ (Ne.symm hn)]
  rfl

theorem State.setCompare_setFlag (s : State) (v : Bool) (r b : Byte) :
    (s.setFlag g v).setCompare r b = (s.setCompare r b).setFlag g v := by
  have hc : Flag.C ≠ g := fun h => hg (h ▸ by decide)
  rw [State.setCompare, s.setFlag_setFlag_comm hc, State.setZN_setFlag hg]
  rfl

theorem State.setAlu_setFlag (s : State) (v : Bool) (o : AluOut) :
    (s.setFlag g v).setAlu o = (s.setAlu o).setFlag g v := by
  simp only [resultFlags, List.mem_cons, List.not_mem_nil, or_false, not_or] at hg
  obtain ⟨hc, hz, hv, hn⟩ := hg
  rw [State.setAlu, s.setFlag_setFlag_comm (Ne.symm hc), State.setFlag_setFlag_comm _ (Ne.symm hz),
    State.setFlag_setFlag_comm _ (Ne.symm hv), State.setFlag_setFlag_comm _ (Ne.symm hn)]
  rfl

end

/-! ### The shared operations commute with setting a flag -/

/-- The effect with a flag of its state set. -/
def Effect.setFlag (e : Effect) (g : Flag) (v : Bool) : Effect := { e with state := e.state.setFlag g v }

/-- A state and what was read, with a flag of the state set. -/
def setFlagFst {α : Type} (g : Flag) (v : Bool) (x : State × α) : State × α := (x.1.setFlag g v, x.2)

section
variable (s : State) (g : Flag) (v : Bool)

theorem memRead_setFlag (a : Word) : memRead (s.setFlag g v) a = memRead s a := rfl

theorem read16_setFlag (a : Word) : read16 (s.setFlag g v) a = read16 s a := rfl

theorem writeTarget_setFlag (k : Target) (b : Byte) :
    writeTarget (s.setFlag g v) k b = (writeTarget s k b).setFlag g v := by
  cases k with
  | prg k => by_cases hw : s.cfg.prgWritable = true <;> simp only [writeTarget, State.setFlag_cfg, hw] <;> rfl
  | ram k => rfl
  | ppuReg k => rfl
  | unmapped => rfl

theorem memWrite_setFlag (a : Word) (b : Byte) :
    memWrite (s.setFlag g v) a b = (·.setFlag g v) <$> memWrite s a b := by
  simp only [memWrite, busWrite, writeTarget_setFlag, map_bind, map_pure]
  rfl

theorem push_setFlag (b : Byte) : push (s.setFlag g v) b = (·.setFlag g v) <$> push s b := by
  simp only [push, memWrite_setFlag, bind_map_left, map_bind, map_pure]
  rfl

theorem pushWord_setFlag (w : Word) : pushWord (s.setFlag g v) w = (·.setFlag g v) <$> pushWord s w := by
  simp only [pushWord, push_setFlag, bind_map_left, map_bind]

theorem pull_setFlag : pull (s.setFlag g v) = setFlagFst g v <$> pull s := by
  simp only [pull, map_bind, map_pure]
  rfl

theorem pullWord_setFlag : pullWord (s.setFlag g v) = setFlagFst g v <$> pullWord s := by
  simp only [pullWord, pull_setFlag, bind_map_left, map_bind, map_pure, setFlagFst]

theorem operand_setFlag (f : Form) : operand f (s.setFlag g v) = setFlagFst g v <$> operand f s := by
  cases f
  case imp | imm => rfl
  all_goals
    simp only [operand, map_bind, map_pure]
    rfl

theorem writeBack_setFlag (f : Form) (b : Byte) :
    writeBack f b (s.setFlag g v) = (·.setFlag g v) <$> writeBack f b s := by
  cases f
  case imp => rfl
  all_goals exact memWrite_setFlag s g v s.addrAbs b

theorem effectiveAddress_setFlag (f : Form) : effectiveAddress f (s.setFlag g v) = effectiveAddress f s := by
  cases f <;> rfl

theorem resolve_setFlag (f : Form) : resolve f (s.setFlag g v) = setFlagFst g v <$> resolve f s := by
  cases f
  case imp | rel => rfl
  all_goals
    simp only [resolve, effectiveAddress_setFlag, map_bind, map_pure]
    rfl

theorem fetchForm_setFlag (m : Mode) : fetchForm m (s.setFlag g v) = fetchForm m s := by
  cases m <;> rfl

theorem branch_setFlag (c : Bool) : branch c (s.setFlag g v) = (·.setFlag g v) <$> branch c s := by
  cases c <;> rfl

variable {g}

theorem afterOpcode_setFlag (hg : g ≠ .U) (op : Byte) :
    afterOpcode op (s.setFlag g v) = (afterOpcode op s).setFlag g v := by
  have hp : (s.setFlag g v).setFlag .U true = (s.setFlag .U true).setFlag g v := s.setFlag_setFlag_comm hg.symm v true
  exact congrArg (fun t : State => { t with opcode := op, pc := s.pc + 1 }) hp

/-- A flag set before a fetch tick is a flag set before its routine: nothing before the routine reads or
writes any flag but U. -/
theorem tick_setFlag (hg : g ≠ .U) (op : Byte) (n : Nat) (f : Form) (r : Form → State → Except Fault Effect) :
    tick op n f r (s.setFlag g v) = tick op n f (fun f s => r f (s.setFlag g v)) s := by
  simp only [tick, afterOpcode_setFlag s v hg, resolve_setFlag, bind_map_left]
  rfl

/-- The fetch tick of a routine that commutes with setting the flag. -/
theorem tick_commutes (hg : g ≠ .U) {op : Byte} {n : Nat} {f : Form} {r : Form → State → Except Fault Effect}
    (hr : ∀ s, r f (s.setFlag g v) = (·.setFlag g v) <$> r f s) :
    tick op n f r (s.setFlag g v) = (·.setFlag g v) <$> tick op n f r s := by
  rw [tick_setFlag s v hg]
  simp only [tick, hr, bind_map_left, map_bind, map_pure]
  rfl

/-- The fetch tick of a routine that forgets the flag. -/
theorem tick_forgets (hg : g ≠ .U) {op : Byte} {n : Nat} {f : Form} {r : Form → State → Except Fault Effect}
    (hr : ∀ s, r f (s.setFlag g v) = r f s) : tick op n f r (s.setFlag g v) = tick op n f r s := by
  rw [tick_setFlag s v hg]
  simp only [tick, hr]

end

/-! ### The Decimal flag -/

/-- ADC and SBC read the carry, and write A and the result flags. -/
theorem adder_setFlag {m : Mnemonic} (hm : m ∈ [.ADC, .SBC]) {g : Flag} (hg : g ∉ resultFlags) (mode : Mode)
    (f : Form) (s : State) (v : Bool) : routineOf (entry m mode 0) f (s.setFlag g v) =
      (·.setFlag g v) <$> routineOf (entry m mode 0) f s := by
  have hc : Flag.C ≠ g := fun h => hg (h ▸ by decide)
  simp only [List.mem_cons, List.not_mem_nil, or_false] at hm
  rcases hm with rfl | rfl
  all_goals
    simp only [routineOf, entry, opAdc, opSbc, operand_setFlag, bind_map_left, map_bind, map_pure, setFlagFst,
      State.setAlu_setFlag hg, State.flag_setFlag_other _ hc]
    rfl

/-- A fetch tick that commutes with setting a flag, as an outcome. -/
theorem run_commutes {op : Byte} {n : Nat} {f : Form} {r : Form → State → Except Fault Effect} {g : Flag}
    {v : Bool} (hg : g ≠ .U) (hr : ∀ s, r f (s.setFlag g v) = (·.setFlag g v) <$> r f s) {s t : State}
    (h : run op n f r s = .next t) : run op n f r (s.setFlag g v) = .next (t.setFlag g v) := by
  rw [run, tick_commutes s v hg hr, outcomeOf_next h]
  rfl

/-- Settles O59: the adder reads the carry alone, and what writes P beside it leaves D. -/
theorem decimalFlagIsIgnored : Obligations.DecimalFlagIsIgnored := by
  unfold Obligations.DecimalFlagIsIgnored
  intro m f i s t d hm ha h
  rw [exec_of_assemble ha] at h ⊢
  exact run_commutes (by decide) (fun s => adder_setFlag hm (by decide) _ f s d) h

/-! ### The Break bit -/

/-- The direction in which `simp` moves the Break bit: outward. -/
theorem State.setFlag_setBreak (s : State) {f : Flag} (h : f ≠ .B) (v w : Bool) :
    (s.setFlag .B v).setFlag f w = (s.setFlag f w).setFlag .B v :=
  s.setFlag_setFlag_comm h v w

theorem pushedStatus_setBreak (p : Byte) (v brk : Bool) :
    pushedStatus (setFlag p .B v) brk = pushedStatus p brk :=
  flags_ext fun k => by
    simp only [pushedStatus, getFlag_setFlag]
    split <;> rfl

/-- Taking an exception forgets the Break bit: the byte pushed has its own, and the live one is cleared. -/
theorem takeException_forgets_break (s : State) (v brk : Bool) (ret vec : Word) :
    takeException (s.setFlag .B v) brk ret vec = takeException s brk ret vec := by
  simp only [takeException, pushWord_setFlag, bind_map_left, State.setFlag_p, pushedStatus_setBreak,
    push_setFlag, State.setFlag_setFlag_same, setFlag_setFlag_same]

/-- The status pulled takes the place of the live one. -/
theorem returnFromException_forgets_break (s : State) (v : Bool) :
    returnFromException (s.setFlag .B v) = returnFromException s := by
  simp only [returnFromException, pull_setFlag, bind_map_left]
  rfl

/-- The mnemonics whose routines write the Break bit whatever it held (45_stack_flags_system R251, R253, R261,
R262). -/
def breakWriters : List Mnemonic := [.PHP, .PLP, .BRK, .RTI]

theorem routine_forgets_break {m : Mnemonic} (hm : m ∈ breakWriters) (mode : Mode) (f : Form) (s : State)
    (v : Bool) : routineOf (entry m mode 0) f (s.setFlag .B v) = routineOf (entry m mode 0) f s := by
  simp only [breakWriters, List.mem_cons, List.not_mem_nil, or_false] at hm
  rcases hm with rfl | rfl | rfl | rfl
  · simp only [routineOf, entry, opPhp, State.setFlag_p, pushedStatus_setBreak, push_setFlag, bind_map_left,
      State.setFlag_setFlag_same]
  · simp only [routineOf, entry, opPlp, pull_setFlag, bind_map_left]
    rfl
  · simp only [routineOf, entry, opBrk, takeException_forgets_break]
    rfl
  · simp only [routineOf, entry, opRti, returnFromException_forgets_break]

theorem routine_commutes_break {m : Mnemonic} (hm : m ∉ breakWriters) (mode : Mode) (f : Form) (s : State)
    (v : Bool) : routineOf (entry m mode 0) f (s.setFlag .B v) =
      (·.setFlag .B v) <$> routineOf (entry m mode 0) f s := by
  have hB : Flag.B ∉ resultFlags := by decide
  cases m
  case PHP | PLP | BRK | RTI => exact absurd (by decide) hm
  case ADC | SBC => exact adder_setFlag (by decide) hB mode f s v
  case LDA | LDX | LDY | AND | ORA | EOR =>
    simp only [routineOf, entry, opLda, opLdx, opLdy, opAnd, opOra, opEor, operand_setFlag, bind_map_left,
      map_bind, map_pure, setFlagFst, State.setZN_setFlag hB]
    rfl
  case CMP | CPX | CPY =>
    simp only [routineOf, entry, opCmp, opCpx, opCpy, operand_setFlag, bind_map_left, map_bind, map_pure,
      setFlagFst, State.setCompare_setFlag hB]
    rfl
  case BIT =>
    simp only [routineOf, entry, opBit, operand_setFlag, bind_map_left, map_bind, map_pure, setFlagFst,
      State.setFlag_setBreak, ne_eq, reduceCtorEq, not_false_eq_true]
    rfl
  case STA | STX | STY =>
    simp only [routineOf, entry, opSta, opStx, opSty, memWrite_setFlag, bind_map_left, map_bind, map_pure]
    rfl
  case INC | DEC =>
    simp only [routineOf, entry, opInc, opDec, operand_setFlag, memWrite_setFlag, bind_map_left, map_bind,
      map_pure, setFlagFst, State.setZN_setFlag hB]
    rfl
  case ASL | LSR | ROL | ROR =>
    simp only [routineOf, entry, opAsl, opLsr, opRol, opRor, shiftBy, operand_setFlag, bind_map_left, map_bind,
      map_pure, setFlagFst, State.flag_setFlag_other, State.setFlag_setBreak, ne_eq, reduceCtorEq,
      not_false_eq_true, State.setZN_setFlag hB, writeBack_setFlag]
    rfl
  case BCC | BCS | BEQ | BMI | BNE | BPL | BVC | BVS =>
    simp only [routineOf, entry, opBcc, opBcs, opBeq, opBmi, opBne, opBpl, opBvc, opBvs, branch_setFlag,
      State.flag_setFlag_other, ne_eq, reduceCtorEq, not_false_eq_true]
  case TAX | TAY | TSX | TXA | TYA | INX | INY | DEX | DEY =>
    simp only [routineOf, entry, opTax, opTay, opTsx, opTxa, opTya, opInx, opIny, opDex, opDey,
      State.setZN_setFlag hB]
    rfl
  case CLC | CLD | CLI | CLV | SEC | SED | SEI =>
    exact congrArg (fun t => Except.ok (plain t)) (s.setFlag_setFlag_comm (by decide) v _)
  case JSR =>
    simp only [routineOf, entry, opJsr, pushWord_setFlag, bind_map_left, map_bind, map_pure]
    rfl
  case RTS =>
    simp only [routineOf, entry, opRts, pullWord_setFlag, bind_map_left, map_bind, map_pure]
    rfl
  case PHA =>
    simp only [routineOf, entry, opPha, push_setFlag, bind_map_left, map_bind, map_pure]
    rfl
  case PLA =>
    simp only [routineOf, entry, opPla, pull_setFlag, bind_map_left, map_bind, map_pure, setFlagFst,
      State.setZN_setFlag hB]
    rfl
  case TXS | JMP | NOP => rfl

/-- A stub reads no flag and writes none but U. -/
theorem stub_commutes_break {op : Byte} {n : Nat} {r : StubRoutine} {s t : State} (v : Bool)
    (h : stub op n r s = .next t) : stub op n r (s.setFlag .B v) = .next (t.setFlag .B v) := by
  obtain ⟨f, hf, ht⟩ := bind_ok (outcomeOf_next h)
  simp only [stub, State.setFlag_cfg, afterOpcode_setFlag s v (g := .B) (by decide), fetchForm_setFlag, hf]
  exact run_commutes (by decide) (fun _ => rfl) (congrArg outcomeOf ht)

/-- An instruction from a state with another Break bit leaves the same, or the same with that bit. -/
theorem exec_setBreak {i : Instr} {s t : State} (v : Bool) (h : exec i s = .next t) :
    exec i (s.setFlag .B v) = .next t ∨ exec i (s.setFlag .B v) = .next (t.setFlag .B v) := by
  rcases instr_cases i with ⟨m, f, ha⟩ | ⟨r, hstub, -, -⟩
  · rw [exec_of_assemble ha] at h ⊢
    by_cases hm : m ∈ breakWriters
    · left
      rw [run, tick_forgets s v (by decide) fun s => routine_forgets_break hm _ f s v]
      exact h
    · exact .inr (run_commutes (by decide) (fun s => routine_commutes_break hm _ f s v) h)
  · rw [hstub] at h ⊢
    exact .inr (stub_commutes_break v h)

theorem irq_setBreak {s t : State} (v : Bool) (h : irq s = .ok t) :
    irq (s.setFlag .B v) = .ok t ∨ irq (s.setFlag .B v) = .ok (t.setFlag .B v) := by
  have hI : (s.setFlag .B v).flag .I = s.flag .I := s.flag_setFlag_other (by decide) v
  unfold irq at h ⊢
  rw [hI, takeException_forgets_break]
  by_cases hs : s.flag .I = true
  · rw [if_pos hs] at h ⊢
    obtain rfl := Except.ok.inj h
    exact .inr rfl
  · rw [if_neg hs] at h ⊢
    exact .inl h

theorem nmi_forgets_break (s : State) (v : Bool) : nmi (s.setFlag .B v) = nmi s := by
  simp only [nmi, takeException_forgets_break, State.setFlag_pc]

/-- The same state, or the same with another Break bit, is the same but for that bit. -/
theorem next_but_break {o : Host.Outcome State Fault Refusal} {t : State} {v : Bool}
    (h : o = .next t ∨ o = .next (t.setFlag .B v)) :
    ∃ u, o = .next u ∧ u.setFlag .B false = t.setFlag .B false := by
  rcases h with rfl | rfl
  · exact ⟨t, rfl, rfl⟩
  · exact ⟨_, rfl, t.setFlag_setFlag_same .B v false⟩

/-- Settles O58: every routine and every interrupt entry either commutes with setting the Break bit or writes
it whatever it held. -/
theorem nothingReadsTheLiveBreakBit : Obligations.NothingReadsTheLiveBreakBit := by
  unfold Obligations.NothingReadsTheLiveBreakBit
  refine ⟨fun i s t b h => next_but_break (exec_setBreak b h), fun act s t b hact h => ?_⟩
  simp only [List.mem_cons, List.not_mem_nil, or_false] at hact
  rcases hact with rfl | rfl
  · exact next_but_break ((irq_setBreak b (outcomeOf_next h)).imp (congrArg outcomeOf) (congrArg outcomeOf))
  · refine next_but_break (v := b) (.inl ?_)
    simp only [perform, nmi_forgets_break]
    exact h

end Sys2Proof.Machine
end

section
/-! PROOFS. The CPU side of the bus (20_memory R61 to R71, R77, R78): the address map in exact arithmetic, the
faults of an unsupported cartridge, and what a write changes. -/

namespace Sys2Proof.Machine

/-! ### The address map -/

/-- A mask of low bits is a remainder. -/
theorem toNat_and_lowBits (a : Word) {m : Word} {k : Nat} (n : Nat) (hk : k = 2 ^ n) (hm : m.toNat = k - 1) :
    (a &&& m).toNat = a.toNat % k := by
  rw [BitVec.toNat_and, hm, hk, Nat.and_two_pow_sub_one_eq_mod]

/-- The RAM mirror and the picture-unit register mirror (20_memory R63 to R65). -/
theorem windowTarget_eq (a : Word) : windowTarget a =
    if a.toNat < 0x2000 then .ram (a.toNat % 2048)
    else if a.toNat < 0x4000 then .ppuReg (a.toNat % 8)
    else .unmapped := by
  simp only [windowTarget, Nat.lt_succ_iff, toNat_and_lowBits a 11 (m := 0x07FF) (k := 2048) rfl rfl,
    toNat_and_lowBits a 3 (m := 0x0007) (k := 8) rfl rfl]

/-- Mapper 0 claims the upper half of the address space and mirrors a single bank (20_memory R68). -/
theorem mapCpu_eq (h : Header) (a : Word) : mapCpu h a =
    if a.toNat < 0x8000 then none
    else some (if h.prgBanks.toNat ≤ 1 then a.toNat % 16384 else a.toNat % 32768) := by
  unfold mapCpu
  by_cases ha : a.toNat < 0x8000
  · rw [if_pos ha, if_neg (by omega)]
  · rw [if_neg ha, if_pos (by omega)]
    by_cases hb : h.prgBanks.toNat ≤ 1
    · rw [if_pos hb, if_neg (by omega), toNat_and_lowBits a 14 (k := 16384) rfl rfl]
    · rw [if_neg hb, if_pos (by omega), toNat_and_lowBits a 15 (k := 32768) rfl rfl]

/-- Below program memory the cartridge makes no difference (20_memory R61, R67). -/
theorem targetOf_low (s : State) {a : Word} (ha : a.toNat < 0x8000) : targetOf s a = windowTarget a := by
  unfold targetOf
  cases s.cart with
  | none => rfl
  | some c => simp only [mapCpu_eq, if_pos ha]

/-- Program memory, or nothing when the slot is empty. -/
theorem targetOf_upper (s : State) {a : Word} (ha : ¬ a.toNat < 0x8000) : targetOf s a =
    match s.cart with
    | none => .unmapped
    | some c => .prg (if c.header.prgBanks.toNat ≤ 1 then a.toNat % 16384 else a.toNat % 32768) := by
  unfold targetOf
  cases s.cart with
  | none => simp only [windowTarget_eq]; rw [if_neg (by omega), if_neg (by omega)]
  | some c => simp only [mapCpu_eq, if_neg ha]

/-- An exclusive or with a multiple of the RAM's length that stays in the RAM window names the same byte
(20_memory R63, R78). -/
theorem targetOf_ramMirror (s : State) {a m : Word} (ha : a.toNat < 0x2000) (hm : m.toNat < 0x2000)
    (hlow : m.toNat % 2048 = 0) : targetOf s (a ^^^ m) = targetOf s a := by
  have hlt : (a ^^^ m).toNat < 0x2000 := by
    rw [BitVec.toNat_xor]
    exact Nat.xor_lt_two_pow (n := 13) ha hm
  have hmod : (a ^^^ m).toNat % 2048 = a.toNat % 2048 := by
    rw [BitVec.toNat_xor, show 2048 = 2 ^ 11 from rfl, Nat.xor_mod_two_pow, hlow, Nat.xor_zero]
  rw [targetOf_low s (by omega), targetOf_low s (by omega), windowTarget_eq, windowTarget_eq, if_pos hlt,
    if_pos ha, hmod]

/-- Settles O47: the decode below and above 0x8000, and the mirrors of RAM. -/
theorem addressMapIsDecoded : Obligations.AddressMapIsDecoded := by
  unfold Obligations.AddressMapIsDecoded
  intro s a hr
  refine ⟨?_, fun m ha hm => ?_, rfl⟩
  · rw [busDecode_ready hr]
    by_cases ha : a.toNat < 0x8000
    · rw [targetOf_low s ha, windowTarget_eq, if_pos ha]
    · rw [if_neg (by omega), if_neg (by omega), if_neg ha]
      exact congrArg Except.ok (targetOf_upper s ha)
  · rw [busDecode_ready hr, busDecode_ready hr]
    simp only [List.mem_cons, List.not_mem_nil, or_false] at hm
    rcases hm with rfl | rfl | rfl <;> rw [targetOf_ramMirror s ha (by decide) (by decide)]

/-! ### An unsupported cartridge -/

/-- The bus does not answer: the cartridge in the slot has no mapper (20_memory R71, R86). -/
theorem cart_of_notReady {s : State} (h : busReady s = false) :
    ∃ c, s.cart = some c ∧ c.header.mapper = none := by
  unfold busReady at h
  cases hc : s.cart with
  | none => simp [hc] at h
  | some c => exact ⟨c, rfl, by simpa [hc] using h⟩

theorem ppuRead_notReady {s : State} (h : busReady s = false) (a : Word) (ro : Bool) :
    ppuRead s a ro = .error (.mapperUnavailable (a &&& s.cfg.ppuBusMask)) := by
  obtain ⟨c, hc, hm⟩ := cart_of_notReady h
  simp only [ppuRead, hc, hm]

theorem ppuWrite_notReady {s : State} (h : busReady s = false) (a : Word) (v : Byte) :
    ppuWrite s a v = .error (.mapperUnavailable (a &&& s.cfg.ppuBusMask)) := by
  obtain ⟨c, hc, hm⟩ := cart_of_notReady h
  simp only [ppuWrite, hc, hm]

/-- A fetch stops at its first read. -/
theorem fetch_notReady {s : State} (h : busReady s = false) : fetch s = .error (.mapperUnavailable s.pc) := by
  rw [fetch, memRead, busRead_notReady h]
  rfl

/-- Settles O48: each access stops in its address decode, and a fetch in the access at PC. -/
theorem unsupportedCartridgeFaultsEveryAccess : Obligations.UnsupportedCartridgeFaultsEveryAccess := by
  unfold Obligations.UnsupportedCartridgeFaultsEveryAccess
  intro s a v ro hr
  refine ⟨?_, ?_, ?_, ?_, fun hw => ?_⟩
  · simp only [perform, busRead_notReady hr, observed]
  · simp only [perform, busWrite_notReady hr, outcomeOf]
  · simp only [perform, ppuRead_notReady hr, observed]
  · simp only [perform, ppuWrite_notReady hr, outcomeOf]
  · simp only [perform, cpuClock, hw, if_true, fetch_notReady hr]

/-! ### A bus write -/

/-- A write changes no field of the state but the stores. -/
theorem writeTarget_onlyStores (s : State) (k : Target) (v : Byte) :
    ({ writeTarget s k v with ram := s.ram, ppuReg := s.ppuReg, cart := s.cart } : State) = s := by
  cases k with
  | prg k => by_cases hw : s.cfg.prgWritable = true <;> simp only [writeTarget, hw] <;> rfl
  | ram k => rfl
  | ppuReg k => rfl
  | unmapped => rfl

/-- Settles O49: the write goes to the one cell that the bus decodes the address to. -/
theorem busWriteChangesOneByte : Obligations.BusWriteChangesOneByte := by
  unfold Obligations.BusWriteChangesOneByte
  intro s a v hr hi
  refine ⟨writeTarget s (targetOf s a) v, ?_, storedAt_writeTarget hi.canonical hr a v,
    memoryFrame_writeTarget hr a v, (keeps_writeTarget s a v).devices, writeTarget_onlyStores .., fun ro => ?_⟩
  · simp only [perform, busWrite_ready hr, outcomeOf]
  · simp only [perform, busRead_ready hr, observed]

end Sys2Proof.Machine
end

section
/-! PROOFS. The stack (20_memory R79): what a list of pushes leaves in RAM, and what as many pulls give back. -/

namespace Sys2Proof.Machine

/-- The RAM after the bytes of a list were pushed, the first at stack pointer `sp` (20_memory R79). -/
def ramPushAll (m : Memory) (sp : Byte) (vs : List Byte) : Memory :=
  match vs with
  | [] => m
  | v :: rest => ramPushAll (m.write (256 + sp.toNat) v) (sp - 1) rest

theorem sub_one_sub_ofNat (sp : Byte) (n : Nat) :
    sp - 1 - BitVec.ofNat 8 n = sp - BitVec.ofNat 8 (n + 1) := by
  rw [BitVec.sub_sub, BitVec.ofNat_add, BitVec.add_comm]
  rfl

theorem add_one_add_ofNat (sp : Byte) (n : Nat) :
    sp + 1 + BitVec.ofNat 8 n = sp + BitVec.ofNat 8 (n + 1) := by
  rw [BitVec.add_assoc, BitVec.ofNat_add, BitVec.add_comm 1]
  rfl

theorem pushAll_eq {s : State} (h : busReady s = true) (vs : List Byte) :
    pushAll s vs =
      .ok { s with ram := ramPushAll s.ram s.sp vs, sp := s.sp - BitVec.ofNat 8 vs.length } := by
  induction vs generalizing s with
  | nil => simp [pushAll, ramPushAll]
  | cons v rest ih =>
    rw [pushAll, push_eq h]
    simp only [bind, Except.bind]
    rw [ih (by exact h)]
    simp only [ramPushAll, sub_one_sub_ofNat, List.length_cons]

/-- The stack pointers of two of 256 successive pushes differ. -/
theorem stackPointer_ne (sp : Byte) {i j : Nat} (h : i < j) (hj : j < 256) :
    sp - BitVec.ofNat 8 i ≠ sp - BitVec.ofNat 8 j := by
  refine sub_ne_of_ne fun hc => ?_
  have := congrArg BitVec.toNat hc
  simp only [BitVec.toNat_ofNat] at this
  omega

/-- Pushes leave alone a stack byte that none of them names. -/
theorem ramPushAll_read_other {m : Memory} {p sp : Byte} {vs : List Byte}
    (h : ∀ i < vs.length, p ≠ sp - BitVec.ofNat 8 i) :
    (ramPushAll m sp vs).read (256 + p.toNat) = m.read (256 + p.toNat) := by
  induction vs generalizing m sp with
  | nil => rfl
  | cons v rest ih =>
    have hp : p ≠ sp := by simpa using h 0 (by simp)
    rw [ramPushAll, ih, Memory.read_write_other _ _ (stackIndex_ne hp)]
    intro i hi
    rw [sub_one_sub_ofNat]
    exact h (i + 1) (by simpa using hi)

/-- Each of up to 256 bytes pushed is still there after the last. -/
theorem ramPushAll_read {m : Memory} {sp : Byte} {vs : List Byte} (hm : m.wf = true)
    (hlen : vs.length ≤ 256) {i : Nat} (hi : i < vs.length) :
    (ramPushAll m sp vs).read (256 + (sp - BitVec.ofNat 8 i).toNat) = vs[i] := by
  induction vs generalizing m sp i with
  | nil => simp at hi
  | cons v rest ih =>
    simp only [List.length_cons] at hlen hi
    rw [ramPushAll]
    cases i with
    | zero =>
      rw [ramPushAll_read_other fun j hj => ?_]
      · simpa using Memory.read_write_same hm (256 + sp.toNat) v
      · rw [sub_one_sub_ofNat]
        exact stackPointer_ne sp (by omega) (by omega)
    | succ i =>
      rw [← sub_one_sub_ofNat]
      exact ih (Memory.wf_write hm _ _) (by omega) (by omega)

/-- Pulling gives the bytes that lie above the stack pointer. -/
theorem pullAll_eq {s : State} (h : busReady s = true) {vs : List Byte}
    (hvs : ∀ i (hi : i < vs.length), s.ram.read (256 + (s.sp + BitVec.ofNat 8 (i + 1)).toNat) = vs[i]) :
    pullAll s vs.length = .ok ({ s with sp := s.sp + BitVec.ofNat 8 vs.length }, vs) := by
  induction vs generalizing s with
  | nil => simp [pullAll]
  | cons v rest ih =>
    have hv : s.ram.read (256 + (s.sp + 1).toNat) = v := hvs 0 (by simp)
    have hrest : pullAll { s with sp := s.sp + 1 } rest.length =
        .ok ({ s with sp := s.sp + 1 + BitVec.ofNat 8 rest.length }, rest) := by
      refine ih (s := { s with sp := s.sp + 1 }) h fun i hi => ?_
      rw [add_one_add_ofNat]
      exact hvs (i + 1) (by simpa using hi)
    rw [List.length_cons, pullAll, pull_eq h, hv]
    simp only [bind, Except.bind, hrest, add_one_add_ofNat]
    rfl

/-- The stack pointer after `n` pushes and `i + 1` pulls is the one at which byte `n - 1 - i` was pushed. -/
theorem stackPointer_pushed_pulled (sp : Byte) {n i : Nat} (hi : i < n) :
    sp - BitVec.ofNat 8 n + BitVec.ofNat 8 (i + 1) = sp - BitVec.ofNat 8 (n - 1 - i) := by
  have hn : BitVec.ofNat 8 n = BitVec.ofNat 8 (n - 1 - i) + BitVec.ofNat 8 (i + 1) := by
    rw [← BitVec.ofNat_add]
    congr 1
    omega
  rw [hn, ← BitVec.sub_sub, BitVec.sub_add_cancel]

/-- Pulling as many bytes as were pushed. -/
theorem pullAll_pushed {s : State} (h : busReady s = true) (hw : s.ram.wf = true) {vs : List Byte}
    (hlen : vs.length ≤ 256) :
    pullAll { s with ram := ramPushAll s.ram s.sp vs, sp := s.sp - BitVec.ofNat 8 vs.length } vs.length =
      .ok ({ s with ram := ramPushAll s.ram s.sp vs }, vs.reverse) := by
  rw [← vs.length_reverse, pullAll_eq (by exact h)]
  · simp only [BitVec.sub_add_cancel]
  · intro i hi
    rw [vs.length_reverse] at hi ⊢
    rw [stackPointer_pushed_pulled s.sp hi, ramPushAll_read hw hlen (by omega), List.getElem_reverse]

/-- Settles O50: the bytes pushed lie above the stack pointer, the last pushed lowest. -/
theorem stackGivesBackWhatWasPushed : Obligations.StackGivesBackWhatWasPushed := by
  unfold Obligations.StackGivesBackWhatWasPushed
  intro s vs hr hi hlen
  exact ⟨_, _, pushAll_eq hr vs, pullAll_pushed hr hi.ramCanonical hlen, rfl⟩

end Sys2Proof.Machine
end

section
/-! PROOFS. The picture unit's side of the bus (20_memory R69, R70, R72): a read gives a byte of the character memory, a
write is dropped or stored in it. -/

namespace Sys2Proof.Machine

/-- The byte that a masked picture-unit address reads when the bus answers: the character memory's, or 0x00
(20_memory R69, R72). -/
def chrByte (s : State) (a : Word) : Byte :=
  match s.cart with
  | none => 0
  | some c => if a.toNat ≤ 0x1FFF then c.chr.read a.toNat else 0

theorem chrByte_of_cart {s : State} {c : Cartridge} (hc : s.cart = some c) (a : Word) :
    chrByte s a = if a.toNat ≤ 0x1FFF then c.chr.read a.toNat else 0 := by
  simp only [chrByte, hc]

/-- A masked picture-unit address keeps what is written to it: it lies in the character memory, which is RAM
(20_memory R70). -/
def chrAccepts (s : State) (a : Word) : Prop :=
  a.toNat ≤ 0x1FFF ∧ s.cart.map (·.header.chrBanks) = some 0

/-- The cartridge in the slot of a bus that answers has mapper 0. -/
theorem mapper_of_ready {s : State} (h : busReady s = true) {c : Cartridge} (hc : s.cart = some c) :
    c.header.mapper = some .mapper0 := by
  simp only [busReady, hc] at h
  obtain ⟨m, hm⟩ := Option.isSome_iff_exists.mp h
  exact hm

theorem ppuRead_ready {s : State} (h : busReady s = true) (a : Word) (ro : Bool) :
    ppuRead s a ro = .ok (chrByte s (a &&& s.cfg.ppuBusMask)) := by
  cases hc : s.cart with
  | none => simp only [ppuRead, chrByte, hc]
  | some c =>
    simp only [ppuRead, hc, mapper_of_ready h hc, chrByte_of_cart hc, mapPpuRead]
    by_cases ha : (a &&& s.cfg.ppuBusMask).toNat ≤ 0x1FFF
    · simp only [if_pos ha]
    · simp only [if_neg ha]

/-- A write outside the character RAM is dropped. -/
theorem ppuWrite_dropped {s : State} (h : busReady s = true) {a : Word}
    (ha : ¬ chrAccepts s (a &&& s.cfg.ppuBusMask)) (v : Byte) : ppuWrite s a v = .ok s := by
  cases hc : s.cart with
  | none => simp only [ppuWrite, hc]
  | some c =>
    have hm : mapPpuWrite c.header (a &&& s.cfg.ppuBusMask) = none :=
      if_neg fun hw => ha ⟨hw.1, by rw [hc, Option.map_some, hw.2]⟩
    simp only [ppuWrite, hc, mapper_of_ready h hc, hm]

/-- A write to the character RAM is stored in the cartridge. -/
theorem ppuWrite_stored {s : State} (h : busReady s = true) {a : Word}
    (ha : chrAccepts s (a &&& s.cfg.ppuBusMask)) (v : Byte) :
    ∃ c, s.cart = some c ∧ ppuWrite s a v =
      .ok { s with cart := some { c with chr := c.chr.write (a &&& s.cfg.ppuBusMask).toNat v } } := by
  obtain ⟨hlow, hbanks⟩ := ha
  obtain ⟨c, hc, hram⟩ := Option.map_eq_some_iff.mp hbanks
  have hm : mapPpuWrite c.header (a &&& s.cfg.ppuBusMask) = some (a &&& s.cfg.ppuBusMask).toNat :=
    if_pos ⟨hlow, hram⟩
  exact ⟨c, hc, by simp only [ppuWrite, hc, mapper_of_ready h hc, hm]⟩

/-- A masked address reads the byte written to it, if it keeps what is written to it, and every other address
what it read before. -/
theorem chrByte_write {s : State} {c : Cartridge} (hc : s.cart = some c) (hw : c.chr.wf = true) {a : Word}
    (ha : a.toNat ≤ 0x1FFF) (v : Byte) (b : Word) :
    chrByte { s with cart := some { c with chr := c.chr.write a.toNat v } } b =
      if a = b then v else chrByte s b := by
  rw [chrByte_of_cart rfl, chrByte_of_cart hc]
  by_cases hab : a = b
  · subst hab
    rw [if_pos ha, if_pos rfl]
    exact Memory.read_write_same hw _ _
  · have hne : b.toNat ≠ a.toNat := fun h => hab (BitVec.eq_of_toNat_eq h.symm)
    simp only [if_neg hab, Memory.read_write_other _ _ hne]

/-- No CPU address reads the character memory. -/
theorem memoryFrame_chr {s : State} {c : Cartridge} (hc : s.cart = some c) (m : Memory) (stored : List Word) :
    memoryFrame s { s with cart := some { c with chr := m } } stored := by
  refine ⟨fun b => busDecode_congr (by rw [hc]; rfl) b, fun k _ => ?_⟩
  cases k with
  | prg k => simp only [readTarget, hc]
  | ram k => rfl
  | ppuReg k => rfl
  | unmapped => rfl

/-- Settles O51: the write is dropped, or stored in the character RAM. -/
theorem pictureUnitBusReachesCharacterMemory : Obligations.PictureUnitBusReachesCharacterMemory := by
  unfold Obligations.PictureUnitBusReachesCharacterMemory
  intro s a b v hr hi
  have hread : ppuRead s b true = .ok (chrByte s (b &&& s.cfg.ppuBusMask)) := ppuRead_ready hr b true
  have hobs (ro : Bool) : perform (.ppuRead b ro) s = .next s := by
    simp only [perform, ppuRead_ready hr, observed]
  by_cases ha : chrAccepts s (a &&& s.cfg.ppuBusMask)
  · obtain ⟨c, hc, hwrite⟩ := ppuWrite_stored hr ha v
    obtain ⟨-, -, -, hchr, -⟩ := Cartridge.wf_iff.mp (hi.cartWf c hc)
    refine ⟨_, congrArg outcomeOf hwrite, hread, ?_, hobs, memoryFrame_chr hc _ _, by rw [hc]; rfl, rfl⟩
    rw [ppuRead_ready ((busReady_congr (by rw [hc]; rfl)).trans hr), chrByte_write hc hchr ha.1, hread]
    by_cases hab : a &&& s.cfg.ppuBusMask = b &&& s.cfg.ppuBusMask
    · rw [if_pos hab, if_pos ⟨hab, ha⟩]
    · rw [if_neg hab, if_neg fun hw => hab hw.1]
  · refine ⟨s, congrArg outcomeOf (ppuWrite_dropped hr ha v), hread, ?_, hobs,
      .of_sameStores ⟨rfl, rfl, rfl⟩ _, rfl, rfl⟩
    rw [if_neg fun hw => ha hw.2]

end Sys2Proof.Machine
end

section
/-! PROOFS. The cartridge loader (20_memory R84 to R88): when a file loads, and the cartridge that it holds. -/

namespace Sys2Proof.Machine

/-- The header record of the first bytes of a file (20_memory R84). -/
def headerAt (bytes : List Byte) : Header where
  name := (bytes.getD 0 0, bytes.getD 1 0, bytes.getD 2 0)
  prgBanks := bytes.getD 4 0
  chrBanks := bytes.getD 5 0
  mapperOne := bytes.getD 6 0
  mapperTwo := bytes.getD 7 0
  prgRamSize := bytes.getD 8 0
  tvSystem := (bytes.getD 9 0, bytes.getD 10 0)

/-- A list of at least 16 entries, as the pattern of a header reads it. -/
theorem cons16_drop {bytes : List Byte} (h : 16 ≤ bytes.length) :
    bytes[0] :: bytes[1] :: bytes[2] :: bytes[3] :: bytes[4] :: bytes[5] :: bytes[6] :: bytes[7] :: bytes[8] ::
      bytes[9] :: bytes[10] :: bytes[11] :: bytes[12] :: bytes[13] :: bytes[14] :: bytes[15] ::
      bytes.drop 16 = bytes := by
  simp only [List.getElem_cons_drop, List.drop_zero]

theorem parseHeader_eq (bytes : List Byte) :
    parseHeader bytes = if 16 ≤ bytes.length then some (headerAt bytes) else none := by
  unfold parseHeader
  split
  next => exact (if_pos (by simp)).symm
  next hshort =>
    refine (if_neg fun h => ?_).symm
    exact hshort _ _ _ _ _ _ _ _ _ _ _ _ _ _ _ _ _ (cons16_drop h).symm

/-- `n` bytes of a file from offset `k` (20_memory R87). -/
def imageAt (bytes : List Byte) (k n : Nat) : Memory := Memory.ofBytes 0 ((bytes.drop k).take n)

theorem imageAt_wf (bytes : List Byte) (k n : Nat) : (imageAt bytes k n).wf = true :=
  Memory.wf_ofBytes _

theorem imageAt_within (bytes : List Byte) (k : Nat) {n size : Nat} (h : n ≤ size) :
    (imageAt bytes k n).within size = true :=
  Memory.within_ofBytes _ _ _ (by rw [Nat.zero_add]; exact (List.length_take_le _ _).trans h)

theorem imageAt_read (bytes : List Byte) (k n j : Nat) :
    (imageAt bytes k n).read j = if j < n then bytes.getD (k + j) 0 else 0 := by
  have h := Memory.read_ofBytes ((bytes.drop k).take n) 0 j
  rw [Nat.zero_add] at h
  rw [imageAt, h, List.getD_eq_getElem?_getD, List.getElem?_take]
  by_cases hj : j < n
  · rw [if_pos hj, if_pos hj, List.getElem?_drop, List.getD_eq_getElem?_getD]
  · rw [if_neg hj, if_neg hj]
    rfl

/-- The cartridge that a file holds. -/
def cartridgeAt (bytes : List Byte) : Cartridge where
  header := headerAt bytes
  prg := imageAt bytes (headerAt bytes).imageBase (headerAt bytes).prgSize
  chr := imageAt bytes ((headerAt bytes).imageBase + (headerAt bytes).prgSize)
    ((headerAt bytes).chrBanks.toNat * 8192)

/-- A load succeeds when the file holds a header with a program bank and the banks it declares, and gives
the cartridge that the file holds (20_memory R87, R88). -/
theorem loadCartridge_ok {bytes : List Byte} {c : Cartridge} : loadCartridge bytes = .ok c ↔
    (16 ≤ bytes.length ∧ (headerAt bytes).prgBanks ≠ 0 ∧
      (headerAt bytes).imageBase + (headerAt bytes).prgSize + (headerAt bytes).chrBanks.toNat * 8192 ≤
        bytes.length) ∧ c = cartridgeAt bytes := by
  rw [loadCartridge, parseHeader_eq]
  by_cases hlen : 16 ≤ bytes.length
  case neg => simp [hlen]
  by_cases hbanks : (headerAt bytes).prgBanks = 0
  case pos => simp [hlen, hbanks]
  simp only [if_pos hlen, if_neg hbanks]
  by_cases hshort : bytes.length < (headerAt bytes).imageBase + (headerAt bytes).prgSize +
      (headerAt bytes).chrBanks.toNat * 8192
  · rw [if_pos hshort]
    exact ⟨nofun, fun ⟨⟨_, _, hall⟩, _⟩ => absurd hshort hall.not_gt⟩
  · rw [if_neg hshort]
    exact ⟨fun h => ⟨⟨hlen, hbanks, not_lt.mp hshort⟩, (Except.ok.inj h).symm⟩, fun ⟨_, h⟩ => h ▸ rfl⟩

theorem cartridgeAt_wf {bytes : List Byte} (h : (headerAt bytes).prgBanks ≠ 0) :
    (cartridgeAt bytes).wf = true := by
  refine Cartridge.wf_iff.mpr ⟨?_, imageAt_wf .., imageAt_within _ _ (le_refl _), imageAt_wf ..,
    imageAt_within _ _ (Nat.mul_le_mul_right _ (le_max_left _ _))⟩
  exact Nat.pos_of_ne_zero fun h0 => h (BitVec.eq_of_toNat_eq h0)

theorem imageBase_eq (h : Header) : h.imageBase = if h.mapperOne.getLsbD 2 then 528 else 16 := by
  unfold Header.imageBase Header.trainerPresent
  split <;> rfl

/-- The mapper id has its high nibble in byte 7 and its low nibble in byte 6 (20_memory R86). -/
theorem mapperId_toNat (h : Header) :
    h.mapperId.toNat = h.mapperTwo.toNat / 16 * 16 + h.mapperOne.toNat / 16 := by
  have hhi := h.mapperTwo.isLt
  have hlo : h.mapperOne.toNat / 16 < 2 ^ 4 := by have := h.mapperOne.isLt; omega
  have hor := Nat.shiftLeft_add_eq_or_of_lt hlo (h.mapperTwo.toNat / 16)
  rw [Nat.shiftLeft_eq] at hor
  simp only [Header.mapperId, BitVec.toNat_or, BitVec.toNat_shiftLeft, BitVec.toNat_ushiftRight,
    Nat.shiftRight_eq_div_pow, Nat.shiftLeft_eq]
  rw [Nat.mod_eq_of_lt (by omega)]
  exact hor.symm

/-- Settles O52: the load gives the cartridge that the file holds, whose images read the file's bytes. -/
theorem loadedCartridgeHoldsTheFile : Obligations.LoadedCartridgeHoldsTheFile := by
  unfold Obligations.LoadedCartridgeHoldsTheFile
  intro bytes at' base prg chr
  have hbase : (headerAt bytes).imageBase = base := imageBase_eq _
  refine ⟨?_, fun c hc => ?_⟩
  · simp only [loadCartridge_ok, exists_and_left, exists_eq, and_true, hbase]
    rfl
  · obtain ⟨⟨-, hbanks, -⟩, rfl⟩ := loadCartridge_ok.mp hc
    refine ⟨cartridgeAt_wf hbanks, rfl, mapperId_toNat _, rfl, fun k hk => ?_, fun k hk => ?_, fun k hk => ?_⟩
    · exact (imageAt_read ..).trans ((if_pos hk).trans (by rw [hbase]))
    · exact (imageAt_read ..).trans ((if_pos hk).trans (by rw [hbase]; rfl))
    · exact (imageAt_read ..).trans (if_neg (by exact hk.not_gt))

end Sys2Proof.Machine
end

section
/-! PROOFS. Decoding and encoding (30_encoding R110 to R117), the assembler (R114, R120), and the illegal
opcodes (R115, R116). The decoder is said once (`decode_ok`), the illegal opcodes once (`noOpTick`). -/

namespace Sys2Proof.Machine

/-! ### The decoder and the encoder -/

theorem operandBytes_cases (op : Byte) : operandBytes op = 0 ∨ operandBytes op = 1 ∨ operandBytes op = 2 := by
  unfold operandBytes
  cases (descriptor op).mode <;> decide

/-- What the decoder read when it succeeds: an opcode byte, and the operand bytes of its mode. -/
theorem decode_ok {bytes : List Byte} {i : Instr} {rest : List Byte} (h : decode bytes = .ok (i, rest)) :
    ∃ op b1 b2, i = decodeOp op b1 b2 ∧ bytes = op :: ([b1, b2].take (operandBytes op) ++ rest) := by
  unfold decode at h
  split at h
  · cases h
  next op tail =>
    split at h <;> cases h
    next hn => exact ⟨op, 0, 0, rfl, by simp [hn]⟩
    next b1 hn => exact ⟨op, b1, 0, rfl, by simp [hn]⟩
    next b1 b2 hn => exact ⟨op, b1, b2, rfl, by simp [hn]⟩

/-- What the decoder reads is the encoding of the instruction it gives, whose mode is its entry's (30_encoding
R110, R113). -/
theorem decode_spec {bytes : List Byte} {i : Instr} {rest : List Byte} (h : decode bytes = .ok (i, rest)) :
    encode i ++ rest = bytes ∧ modeOf (formOf i) = (descriptor (opcodeOf i)).mode := by
  obtain ⟨op, b1, b2, rfl, rfl⟩ := decode_ok h
  obtain ⟨hop, hmode, hoperands⟩ := decodeOp_spec op b1 b2
  rw [encode, hop, hoperands, List.cons_append]
  exact ⟨rfl, hmode⟩

/-- An opcode byte with two more always decodes (30_encoding R113). -/
theorem decode_total (op b1 b2 : Byte) : ∃ i rest, decode [op, b1, b2] = .ok (i, rest) := by
  rcases operandBytes_cases op with hn | hn | hn <;> simp only [decode, hn] <;> exact ⟨_, _, rfl⟩

/-- The bytes after the ones that the decoder reads make no difference (30_encoding R110). -/
theorem decode_append {bytes : List Byte} {i : Instr} {rest : List Byte} (h : decode bytes = .ok (i, rest))
    (more : List Byte) : decode (bytes ++ more) = .ok (i, rest ++ more) := by
  unfold decode at h
  split at h
  · cases h
  · split at h <;> cases h <;> simp only [decode, List.cons_append, *]

theorem length_operandList (f : Form) : (operandList f).length = operandCount (modeOf f) := by
  cases f <;> rfl

theorem length_encode (i : Instr) : (encode i).length = lengthOf i := by
  rw [encode, List.length_cons, length_operandList, lengthOf, Nat.add_comm]

/-- The decoder puts the two bytes of a word together again (30_encoding R112). -/
theorem decode_word {c : Word → Instr} {op : Byte} {w : Word}
    (h : ∀ lo hi, decode [op, lo, hi] = .ok (c (wordOf hi lo), [])) :
    decode [op, loByte w, hiByte w] = .ok (c w, []) := by
  rw [h, Laws.RoundTrip.wordOf_bytes]

/-- Each instruction is read back from its own bytes, by its form: a word from its two bytes, one operand byte
or none as it stands. -/
theorem decode_encode (i : Instr) : decode (encode i) = .ok (i, []) := by
  cases i <;> simp only [encode, opcodeOf, formOf, operandList] <;> first
    | exact decode_word fun _ _ => rfl
    | rfl

/-- Settles O1: each instruction is read back from its own bytes, and the bytes after them are left. -/
theorem decodeInvertsEncode : Obligations.DecodeInvertsEncode := by
  unfold Obligations.DecodeInvertsEncode
  intro i rest
  exact decode_append (decode_encode i) rest

/-- Settles O2: the decoded instruction has the opcode byte and the operand bytes that were read. -/
theorem encodeInvertsDecode : Obligations.EncodeInvertsDecode := by
  unfold Obligations.EncodeInvertsDecode
  intro bytes i rest h
  exact (decode_spec h).1

/-! ### No instruction is refused -/

theorem outcomeOf_stops (r : Except Fault State) :
    (∃ t, outcomeOf r = .next t) ∨ ∃ a, outcomeOf r = .fault (.mapperUnavailable a) := by
  cases r with
  | ok t => exact .inl ⟨t, rfl⟩
  | error e =>
    cases e with
    | mapperUnavailable a => exact .inr ⟨a, rfl⟩

/-- An instruction completes, or the bus stops it (20_memory R71, 60_exceptions R280). -/
theorem exec_stops (i : Instr) (s : State) :
    (∃ t, exec i s = .next t) ∨ ∃ a, exec i s = .fault (.mapperUnavailable a) := by
  rcases instr_cases i with ⟨m, f, ha⟩ | ⟨r, hstub, -, -⟩
  · rw [exec_of_assemble ha]
    exact outcomeOf_stops _
  · rw [hstub]
    exact outcomeOf_stops _

/-- Settles O3: three bytes are enough for every mode, and what is read back has the entry's mode. -/
theorem everyOpcodeByteHasAnEntry : Obligations.EveryOpcodeByteHasAnEntry := by
  unfold Obligations.EveryOpcodeByteHasAnEntry
  intro op b1 b2
  obtain ⟨i, rest, h⟩ := decode_total op b1 b2
  obtain ⟨hbytes, hmode⟩ := decode_spec h
  have hlen : rest.length + lengthOf i = 3 := by
    rw [← length_encode, Nat.add_comm, ← List.length_append, hbytes]
    rfl
  obtain ⟨rfl, -⟩ := List.cons.inj hbytes
  exact ⟨i, rest, h, rfl, hmode, hlen, exec_stops i⟩

/-- Settles O4: each word is run through the decoder. -/
theorem wordsOfTheManualDecode : Obligations.WordsOfTheManualDecode := by
  unfold Obligations.WordsOfTheManualDecode
  exact ⟨rfl, rfl, rfl, rfl, rfl, rfl, rfl, rfl, rfl, rfl, rfl, rfl, rfl, rfl, rfl⟩

/-! ### The assembler -/

/-- The opcode byte that the mnemonic's own rule gives, and the entry of the opcode matrix at it, for each
mode that the mnemonic has (30_encoding R114). -/
theorem entry_of_assemble {m : Mnemonic} {f : Form} {i : Instr} (h : assemble m f = some i) :
    opcodeAt m (modeOf f) = some (opcodeOf i) ∧
      descriptor (opcodeOf i) = entry m (modeOf f) (baseCyclesOf i) := by
  cases m <;> cases f <;> cases h <;> (simp only [baseCyclesOf, opcodeOf, modeOf]; decide)

/-- Settles O5: an instruction is made by an assembly line or is a stub, which no line makes. -/
theorem assemblerMakesTheDocumentedInstructions : Obligations.AssemblerMakesTheDocumentedInstructions := by
  unfold Obligations.AssemblerMakesTheDocumentedInstructions
  refine ⟨fun m f i h => ⟨formOf_of_assemble h, entry_of_assemble h⟩, fun i hdoc => ?_⟩
  rcases instr_cases i with ⟨m, f, ha⟩ | ⟨-, -, hill, -⟩
  · exact ⟨m, (formOf_of_assemble ha).symm ▸ ha⟩
  · exact absurd hdoc (by simp [hill])

/-! ### The illegal opcodes -/

/-- An illegal opcode is the stub of its entry, of no operand in the default table (30_encoding R115). -/
theorem stub_of_illegal {i : Instr} (h : documented i = false) :
    ∃ r, (∀ s, exec i s = stub (opcodeOf i) (baseCyclesOf i) r s) ∧ formOf i = .imp := by
  rcases instr_cases i with ⟨m, f, ha⟩ | ⟨r, hstub, -, hform⟩
  · exact absurd (documented_of_assemble ha) (by simp [h])
  · exact ⟨r, hstub, hform⟩

/-- What the fetch tick of a stub leaves: opcode `op` of base count `n` in form `f`, whose mode left address
`a` and returned `cross`, when the stub returns `extra` (45_stack_flags_system R264, R265). -/
def noOpTick (op : Byte) (n : Nat) (f : Form) (a : Word) (cross extra : Bool) (s : State) : State :=
  finish n cross { state := resolved f (afterOpcode op s) a, opcodeExtra := extra, branchExtra := 0 }

/-- A stub changes no register but PC, no flag but U, and no byte of memory. -/
theorem noOpTick_frame (op : Byte) (n : Nat) (f : Form) (a : Word) (cross extra : Bool) (s : State) :
    regsAre (noOpTick op n f a cross extra s) s.a s.x s.y s.sp ∧
      sameFlagsBut [.U] s.p (noOpTick op n f a cross extra s).p ∧
      sameStores s (noOpTick op n f a cross extra s) := by
  refine ⟨⟨rfl, rfl, rfl, rfl⟩, fun g hg => ?_, rfl, rfl, rfl⟩
  have hU : g ≠ .U := by simpa using hg
  simp [noOpTick, resolved, hU]

theorem noOpTick_pc (op : Byte) (n : Nat) (f : Form) (a : Word) (cross extra : Bool) (s : State) :
    (noOpTick op n f a cross extra s).pc = s.pc + 1 + BitVec.ofNat 16 (operandCount (modeOf f)) := rfl

theorem noOpTick_cycles (op : Byte) (n : Nat) (f : Form) (a : Word) (cross extra : Bool) (s : State) :
    (noOpTick op n f a cross extra s).cycles = n + (cross && extra).toNat := rfl

/-- Without a replaced entry the default table's stands, of mode IMP, which needs no bus. -/
theorem stub_default {op : Byte} {s : State} (h : replacedEntry s.cfg op = none) (n : Nat) (r : StubRoutine) :
    ∃ extra, stub op n r s = .next (noOpTick op n .imp s.addrAbs false extra s) := by
  refine ⟨stubExtra r op .IMP, ?_⟩
  simp only [stub, illegalEntry, h]
  exact run_eq (f := .imp) (r := opStub (stubExtra r op .IMP)) rfl rfl

/-- Settles O37: with no replaced entry every illegal opcode is the stub of its default entry. -/
theorem illegalOpcodesAreOneByteNoOps : Obligations.IllegalOpcodesAreOneByteNoOps := by
  unfold Obligations.IllegalOpcodesAreOneByteNoOps
  intro i s hill hcfg
  obtain ⟨r, hstub, hform⟩ := stub_of_illegal hill
  obtain ⟨extra, hnext⟩ := stub_default (s := s) (op := opcodeOf i) (by simp [replacedEntry, hcfg])
    (baseCyclesOf i) r
  rw [← hstub] at hnext
  obtain ⟨hkeeps, hunused, hcomplete⟩ := exec_keeps hnext
  obtain ⟨hregs, hflags, hstores⟩ := noOpTick_frame (opcodeOf i) (baseCyclesOf i) .imp s.addrAbs false extra s
  refine ⟨_, hnext, ⟨rfl, hcomplete, hunused, ?_, hkeeps.devices⟩, hregs, hflags, ?_, ?_, rfl, rfl, hstores⟩
  · rw [hform]
    rfl
  · rw [noOpTick_pc]
    exact BitVec.add_zero _
  · rw [noOpTick_cycles]
    rfl

/-- The form whose operand bytes a mode reads is of that mode. -/
theorem fetchForm_mode {m : Mode} {s : State} {f : Form} (h : fetchForm m s = .ok f) : modeOf f = m := by
  cases m
  case IMP => exact Except.ok.inj h ▸ rfl
  all_goals
    obtain ⟨v, -, hv⟩ := bind_ok h
    exact Except.ok.inj hv ▸ rfl

/-- In mode IMP no page is crossed, and in any other a stub returns 1 (90_conflicts C9): what a page cross
adds to a stub's cycle count is 1 in every mode. -/
theorem cross_and_stubExtra {f : Form} {s : State} {a : Word} {cross : Bool}
    (h : effectiveAddress f s = .ok (a, cross)) (r : StubRoutine) (op : Byte) :
    (cross && stubExtra r op (modeOf f)) = cross := by
  cases f
  case imp =>
    obtain ⟨-, rfl⟩ := Prod.mk.inj (Except.ok.inj h)
    rfl
  all_goals exact Bool.and_true cross

/-- Settles O38: the stub of any entry leaves the data, and its mode decides the bytes and the cycles. -/
theorem illegalOpcodesNeverChangeDataWhateverTheTable :
    Obligations.IllegalOpcodesNeverChangeDataWhateverTheTable := by
  unfold Obligations.IllegalOpcodesNeverChangeDataWhateverTheTable
  intro i s hill hready
  obtain ⟨r, hstub, -⟩ := stub_of_illegal hill
  obtain ⟨f, a, cross, hf, ha, hnext⟩ := stub_ready hready (opcodeOf i) (baseCyclesOf i) r
  rw [← hstub, ← noOpTick] at hnext
  obtain ⟨hkeeps, hunused, hcomplete⟩ := exec_keeps hnext
  obtain ⟨hregs, hflags, hstores⟩ := noOpTick_frame (opcodeOf i) _ f a cross _ s
  refine ⟨_, hnext, rfl, hcomplete, hunused, hregs, hflags, hstores, hkeeps.devices, fun e he => ?_⟩
  have hentry : illegalEntry s.cfg (opcodeOf i) (baseCyclesOf i) r = e := by simp [illegalEntry, he]
  rw [hentry] at hf ⊢
  have hmode := fetchForm_mode hf
  refine ⟨f, a, cross, hf, hmode, ha, rfl, ?_, ?_⟩
  · rw [noOpTick_pc, hmode]
  · rw [noOpTick_cycles, ← hmode, cross_and_stubExtra ha]

end Sys2Proof.Machine
end

section
/-! PROOFS. The addressing modes (40_execution R145 to R154) in exact arithmetic: a byte as an address, the two
bytes of a word, the page of an address, and the pointers of IND, IZX and IZY. -/

namespace Sys2Proof.Machine

/-! ### Bytes, words and pages as numbers -/

/-- A byte names an address of page 0. -/
theorem zeroExtend_eq (b : Byte) : zeroExtend b = BitVec.ofNat 16 b.toNat := (BitVec.ofNat_toNat 16 b).symm

theorem wordOf_toNat (hi lo : Byte) : (wordOf hi lo).toNat = hi.toNat * 256 + lo.toNat := by
  rw [wordOf, BitVec.toNat_append, ← Nat.shiftLeft_add_eq_or_of_lt lo.isLt, Nat.shiftLeft_eq]

theorem wordOf_eq (hi lo : Byte) : wordOf hi lo = BitVec.ofNat 16 (hi.toNat * 256 + lo.toNat) := by
  rw [← wordOf_toNat, BitVec.ofNat_toNat, BitVec.setWidth_eq]

theorem loByte_toNat (w : Word) : (loByte w).toNat = w.toNat % 256 := BitVec.extractLsb'_toNat 0 8 w

/-- The page of an address is its high byte, the low byte zero (00_scope, glossary). -/
theorem page_toNat (a : Word) : (page a).toNat = a.toNat / 256 * 256 := by
  have hhigh : (page a).toNat / 2 ^ 8 = a.toNat / 2 ^ 8 := by
    have ha := a.isLt
    rw [page, BitVec.toNat_and, Nat.and_div_two_pow, show (0xFF00 : Word).toNat / 2 ^ 8 = 2 ^ 8 - 1 from rfl,
      Nat.and_two_pow_sub_one_eq_mod]
    omega
  have hlow : (page a).toNat % 2 ^ 8 = 0 := by
    rw [page, BitVec.toNat_and, Nat.and_mod_two_pow, show (0xFF00 : Word).toNat % 2 ^ 8 = 0 from rfl, Nat.and_zero]
  omega

theorem page_bne (a b : Word) : (page a != page b) = decide (a.toNat / 256 ≠ b.toNat / 256) := by
  rw [Bool.eq_iff_iff, bne_iff_ne, decide_eq_true_iff, ne_eq, ← BitVec.toNat_inj, page_toNat, page_toNat]
  omega

/-! ### The modes without a pointer -/

/-- Indexing a word wraps modulo 2^16, and crosses when the high byte changed (40_execution R150, R151). -/
theorem indexed_eq (w : Word) (b : Byte) : indexed w b = (BitVec.ofNat 16 (w.toNat + b.toNat),
    decide ((w.toNat + b.toNat) % 65536 / 256 ≠ w.toNat / 256)) := by
  have hsum : w + zeroExtend b = BitVec.ofNat 16 (w.toNat + b.toNat) := by
    rw [zeroExtend, BitVec.ofNat_add, BitVec.ofNat_toNat, BitVec.ofNat_toNat, BitVec.setWidth_eq]
  rw [indexed, page_bne, hsum, BitVec.toNat_ofNat]

/-- Indexing in page 0 wraps in it (40_execution R146, R147). -/
theorem zeroExtend_add (a b : Byte) : zeroExtend (a + b) = BitVec.ofNat 16 ((a.toNat + b.toNat) % 256) := by
  rw [zeroExtend_eq, BitVec.toNat_add]

/-- Settles O10: a zero-page sum wraps as a byte, a word sum as a word. -/
theorem indexedAddressesWrap : Obligations.IndexedAddressesWrap := by
  unfold Obligations.IndexedAddressesWrap
  intro s ll w
  simp only [effectiveAddress, zeroExtend_add, zeroExtend_eq ll, indexed_eq, and_self]

/-! ### The modes with a pointer -/

/-- A pointer's two bytes are the address, the byte at the lower address the low one. -/
theorem readPointer_eq {s : State} {a b : Word} {lo hi : Byte} (hlo : memRead s a = .ok lo)
    (hhi : memRead s b = .ok hi) : readPointer s a b = .ok (wordOf hi lo) := by
  rw [readPointer, hlo, hhi]
  rfl

/-- Settles O11: the pointer's addresses are sums of bytes, and IZY indexes the word that the pointer gives. -/
theorem zeroPagePointersWrapInPageZero : Obligations.ZeroPagePointersWrapInPageZero := by
  unfold Obligations.ZeroPagePointersWrapInPageZero
  intro s ll lo hi
  have hnext (b : Byte) : zeroExtend (b + 1) = BitVec.ofNat 16 ((b.toNat + 1) % 256) := zeroExtend_add b 1
  refine ⟨fun hlo hhi => ?_, fun hlo hhi => ?_⟩
  · rw [← zeroExtend_add] at hlo
    rw [← Nat.mod_add_mod, ← BitVec.toNat_add, ← hnext] at hhi
    simp only [effectiveAddress, readPointer_eq hlo hhi, wordOf_eq]
    rfl
  · rw [← zeroExtend_eq] at hlo
    rw [← hnext] at hhi
    have hhigh : (hi.toNat * 256 + lo.toNat) / 256 = hi.toNat := by omega
    simp only [effectiveAddress, readPointer_eq hlo hhi]
    show Except.ok (indexed (wordOf hi lo) s.y) = _
    rw [indexed_eq, wordOf_toNat, hhigh]

/-- Where IND finds the high byte: past the low one, but in its page (40_execution R152). -/
theorem indirectHighAddress_eq (ptr : Word) : (if loByte ptr = 0xFF then page ptr else ptr + 1) =
    BitVec.ofNat 16 (if ptr.toNat % 256 = 255 then ptr.toNat / 256 * 256 else ptr.toNat + 1) := by
  have hend : loByte ptr = 0xFF ↔ ptr.toNat % 256 = 255 := by
    rw [← BitVec.toNat_inj, loByte_toNat]
    rfl
  by_cases h : ptr.toNat % 256 = 255
  · rw [if_pos (hend.mpr h), if_pos h, ← page_toNat, BitVec.ofNat_toNat, BitVec.setWidth_eq]
  · rw [if_neg (mt hend.mp h), if_neg h, BitVec.ofNat_add, BitVec.ofNat_toNat, BitVec.setWidth_eq]
    rfl

/-- Settles O12: the pointer's high byte is read in the page of its low byte. -/
theorem indirectPointerStaysInItsPage : Obligations.IndirectPointerStaysInItsPage := by
  unfold Obligations.IndirectPointerStaysInItsPage
  intro s ptr lo hi hlo hhi
  rw [← indirectHighAddress_eq] at hhi
  simp only [effectiveAddress, readPointer_eq hlo hhi, wordOf_eq]
  rfl

end Sys2Proof.Machine
end

section
/-! PROOFS. The instruction fetch and the clocks (40_execution R140, R141; 60_exceptions R289): the calls that only
wait, the step that runs an instruction, the CPU tick run off the descriptor table, and the extra cycle. -/

namespace Sys2Proof.Machine

/-! ### The calls before a fetch -/

/-- The state with these pending cycles, completed flag and bus counter: all that a waiting call writes beside the
picture unit. -/
def State.waiting (s : State) (cycles : Nat) (complete : Bool) (counter : Nat) : State :=
  { s with cycles := cycles, isCompleteCycle := complete, busClockCounter := counter }

theorem ppuClock_waiting (s : State) (n : Nat) (b : Bool) (k : Nat) :
    ppuClock (s.waiting n b k) = (ppuClock s).waiting n b k := by
  by_cases hdot : s.ppuCycle + 1 > 340
  · by_cases hline : s.ppuScanline + 1 > 260 <;>
      simp only [ppuClock, State.waiting, hdot, hline, if_true, if_false]
  · simp only [ppuClock, State.waiting, hdot, if_false]

theorem ppuClocks_waiting (m : Nat) (s : State) (n : Nat) (b : Bool) (k : Nat) :
    ppuClocks m (s.waiting n b k) = (ppuClocks m s).waiting n b k := by
  induction m generalizing s with
  | zero => rfl
  | succ m ih => rw [ppuClocks, ppuClock_waiting, ih, ppuClocks]

/-- One waiting call: away from a multiple of three only the bus counter moves on, at one a pending cycle runs out
too (40_execution R140, 60_exceptions R289). -/
theorem busClock_waiting {s : State} {n : Nat} (h : callsBeforeFetch s = n + 1) :
    ∃ c b, busClock s = .next ((ppuClock s).waiting c b (s.busClockCounter + 1)) ∧
      callsBeforeFetch ((ppuClock s).waiting c b (s.busClockCounter + 1)) = n ∧
      (if c = 0 then b else false) = if s.cycles = 0 then s.isCompleteCycle else false := by
  simp only [callsBeforeFetch, State.waiting] at h ⊢
  by_cases hm : s.busClockCounter % 3 = 0
  · have hc : s.cycles ≠ 0 := by omega
    refine ⟨s.cycles - 1, false, ?_, by omega, by simp [hc]⟩
    simp only [busClock, ppuClock_busClockCounter, hm, if_true, cpuClock, ppuClock_cycles, hc, if_false, countBusClock]
  · refine ⟨s.cycles, s.isCompleteCycle, ?_, by omega, rfl⟩
    simp only [busClock, ppuClock_busClockCounter, hm, if_false, countBusClock]
    rw [← ppuClock_cycles s, ← ppuClock_isCompleteCycle s]

/-- Settles O8, by induction on the number of waiting calls. -/
theorem waitTicksOnlyCountDown : Obligations.WaitTicksOnlyCountDown := by
  unfold Obligations.WaitTicksOnlyCountDown
  intro s
  show _ = Host.Outcome.next ((ppuClocks (callsBeforeFetch s) s).waiting 0 _ _)
  generalize hn : callsBeforeFetch s = n
  induction n generalizing s with
  | zero =>
    have hc : s.cycles = 0 := by unfold callsBeforeFetch at hn; omega
    simp only [busClocks, ppuClocks, State.waiting, hc, if_true, Nat.add_zero]
    rw [← hc]
  | succ n ih =>
    obtain ⟨c, b, hclock, hcalls, hflag⟩ := busClock_waiting hn
    simp only [busClocks, hclock]
    rw [ih _ hcalls, ppuClocks_waiting]
    show Host.Outcome.next ((ppuClocks n (ppuClock s)).waiting 0 (if c = 0 then b else false) _) = _
    rw [hflag, ppuClocks, Nat.add_comm n]
    exact congrArg (fun k => Host.Outcome.next (State.waiting _ 0 _ k)) (Nat.add_assoc ..)

/-! ### The fetch -/

/-- A read depends on the stores alone. -/
theorem memRead_congr {s t : State} (h : sameStores s t) (a : Word) : memRead t a = memRead s a := by
  simp only [memRead, busRead, busDecode_congr (s := s) (t := t) (by rw [h.2.2]), readTarget_congr h]

theorem sameStores_ppuClock (s : State) : sameStores s (ppuClock s) :=
  ⟨ppuClock_ram s, ppuClock_ppuReg s, ppuClock_cart s⟩

/-- The fetch gives what the bytes at PC decode to (30_encoding R110, R113). -/
theorem fetch_of_decode {s : State} {op b1 b2 : Byte} {i : Instr} {rest : List Byte}
    (hop : memRead s s.pc = .ok op) (h1 : memRead s (s.pc + 1) = .ok b1) (h2 : memRead s (s.pc + 2) = .ok b2)
    (h : decode [op, b1, b2] = .ok (i, rest)) : fetch s = .ok i := by
  rcases operandBytes_cases op with hn | hn | hn
  all_goals
    simp only [decode, hn] at h
    obtain ⟨rfl, -⟩ := Prod.mk.inj (Except.ok.inj h)
    simp only [fetch, hop, h1, h2, hn, bind, Except.bind, pure, Except.pure]

/-- Settles O7: the one call of the step fetches, since the picture unit's tick changes no store. -/
theorem stepRunsTheDecodedInstruction : Obligations.StepRunsTheDecodedInstruction := by
  unfold Obligations.StepRunsTheDecodedInstruction
  intro s op b1 b2 i rest hscript hcalls hop h1 h2 hdecode
  have hread := memRead_congr (sameStores_ppuClock s)
  have hfetch : fetch (ppuClock s) = .ok i :=
    fetch_of_decode (by rw [ppuClock_pc, hread]; exact hop) (by rw [ppuClock_pc, hread]; exact h1)
      (by rw [ppuClock_pc, hread]; exact h2) hdecode
  have hcycles : s.cycles = 0 := by unfold callsBeforeFetch at hcalls; omega
  have hcounter : s.busClockCounter % 3 = 0 := by unfold callsBeforeFetch at hcalls; omega
  simp only [step, nextAction, hscript, perform, stepInstruction, hcalls, busClocks, busClock,
    ppuClock_busClockCounter, hcounter, if_true, cpuClock, ppuClock_cycles, hcycles, hfetch]
  cases exec i (ppuClock s) <;> rfl

/-! ### The tick off the descriptor table -/

/-- The tick off the table is the fetch tick of the opcode's entry, with the operand bytes at PC. -/
theorem tableTick_eq {s : State} {op : Byte} (h : memRead s s.pc = .ok op) :
    tableTick s = fetchForm (tableEntry s.cfg op).mode (afterOpcode op s) >>= fun f =>
      tick op (tableEntry s.cfg op).baseCycles f (routineOf (tableEntry s.cfg op)) s := by
  rw [tableTick, h]
  rfl

/-- The operand form of a mode holds the bytes at PC. -/
theorem fetchForm_of_operandList {s : State} {f : Form} {b1 b2 : Byte} {rest : List Byte}
    (h1 : memRead s s.pc = .ok b1) (h2 : memRead s (s.pc + 1) = .ok b2)
    (h : operandList f ++ rest = [b1, b2]) : fetchForm (modeOf f) s = .ok f := by
  cases f
  case imp => rfl
  case abs w | abx w | aby w | ind w =>
    obtain ⟨rfl, rfl, -⟩ : loByte w = b1 ∧ hiByte w = b2 ∧ rest = [] := by simpa [operandList] using h
    simp only [modeOf, fetchForm, read16, h1, h2, bind, Except.bind, pure, Except.pure,
      Laws.RoundTrip.wordOf_bytes]
  all_goals
    obtain ⟨rfl, -⟩ := List.cons.inj h
    simp only [modeOf, fetchForm, h1]
    rfl

/-- When the bus answers, the fetch gives the instruction of the opcode byte at PC, whose form is what the entry's
mode reads after it (30_encoding R110, R113). -/
theorem fetch_ready {s : State} (h : busReady s = true) :
    ∃ i, fetch s = .ok i ∧ memRead s s.pc = .ok (opcodeOf i) ∧
      fetchForm (descriptor (opcodeOf i)).mode (afterOpcode (opcodeOf i) s) = .ok (formOf i) := by
  obtain ⟨i, rest, hdecode⟩ := decode_total (readTarget s (targetOf s s.pc))
    (readTarget s (targetOf s (s.pc + 1))) (readTarget s (targetOf s (s.pc + 2)))
  obtain ⟨hbytes, hmode⟩ := decode_spec hdecode
  obtain ⟨hop, hoperands⟩ := List.cons.inj hbytes
  refine ⟨i, fetch_of_decode (memRead_ready h _) (memRead_ready h _) (memRead_ready h _) hdecode, ?_, ?_⟩
  · rw [hop, memRead_ready h]
  · rw [← hmode]
    refine fetchForm_of_operandList (memRead_ready h _) ?_ hoperands
    show memRead s (s.pc + 1 + 1) = _
    rw [BitVec.add_assoc, memRead_ready h]
    rfl

/-- Each entry that is no documented one is of mode IMP and binds a stub (30_encoding R115). -/
theorem tableRow_undocumented (hi : Nat) : ∀ d ∈ tableRow hi, d.documented = false →
    d.mode = .IMP ∧ (d.routine = .xxx ∨ d.routine = .of .NOP) := by
  unfold tableRow
  split <;> decide

theorem descriptor_undocumented {op : Byte} (h : (descriptor op).documented = false) :
    (descriptor op).mode = .IMP ∧ routineOf (descriptor op) = opStub (descriptor op).opcodeExtra := by
  have hd : (descriptor op).mode = .IMP ∧
      ((descriptor op).routine = .xxx ∨ (descriptor op).routine = .of .NOP) := by
    rw [descriptor, List.getD_eq_getElem?_getD] at h ⊢
    cases hd : (tableRow (op.toNat / 16))[op.toNat % 16]? with
    | none => decide
    | some d => exact tableRow_undocumented _ d (List.mem_of_getElem? hd) (by simpa [hd] using h)
  refine ⟨hd.1, ?_⟩
  rcases hd.2 with hr | hr <;> simp only [routineOf, hr]

/-- A documented instruction is the tick of its entry (30_encoding R114). -/
theorem exec_documented {m : Mnemonic} {f : Form} {i : Instr} (ha : assemble m f = some i) {s : State}
    (hop : memRead s s.pc = .ok (opcodeOf i))
    (hform : fetchForm (descriptor (opcodeOf i)).mode (afterOpcode (opcodeOf i) s) = .ok (formOf i)) :
    exec i s = outcomeOf (tableTick s) := by
  obtain ⟨-, hentry⟩ := entry_of_assemble ha
  have htable : tableEntry s.cfg (opcodeOf i) = entry m (modeOf f) (baseCyclesOf i) := by
    simp [tableEntry, hentry, entry]
  rw [hentry] at hform
  rw [exec_of_assemble ha, tableTick_eq hop, htable, hform, formOf_of_assemble ha]
  rfl

/-- A stub is the tick of its entry: a replaced one is the entry itself, and a default one, of mode IMP, crosses no
page, so what it returns makes no difference (30_encoding R115, 40_execution R156). -/
theorem stub_eq_tableTick {s : State} {op : Byte} (hill : (descriptor op).documented = false)
    (hop : memRead s s.pc = .ok op) (r : StubRoutine) :
    stub op (descriptor op).baseCycles r s = outcomeOf (tableTick s) := by
  obtain ⟨hmode, hroutine⟩ := descriptor_undocumented hill
  rw [tableTick_eq hop]
  cases he : replacedEntry s.cfg op with
  | some e =>
    simp only [stub, illegalEntry, tableEntry, he, hill]
    cases hr : e.routine <;> rfl
  | none =>
    obtain ⟨extra, hnext⟩ := stub_default he (descriptor op).baseCycles r
    have hentry : tableEntry s.cfg op = descriptor op := by simp [tableEntry, he]
    rw [hentry, hmode, hroutine, hnext]
    exact (run_eq (f := .imp) (r := opStub (descriptor op).opcodeExtra) rfl rfl).symm

/-- Settles O6: the decoded instruction is documented and is the tick of its entry, or it is a stub. -/
theorem cpuClockFollowsTheDescriptorTable : Obligations.CpuClockFollowsTheDescriptorTable := by
  unfold Obligations.CpuClockFollowsTheDescriptorTable
  intro s
  by_cases hw : s.cycles = 0
  swap
  · simp only [cpuClock, tableClock, hw, if_false]
  simp only [cpuClock, tableClock, hw, if_true]
  cases hr : busReady s with
  | false =>
    rw [fetch_notReady hr, tableTick, memRead, busRead_notReady hr]
    rfl
  | true =>
    obtain ⟨i, hfetch, hop, hform⟩ := fetch_ready hr
    rw [hfetch]
    rcases instr_cases i with ⟨m, f, ha⟩ | ⟨r, hstub, hill, -⟩
    · exact exec_documented ha hop hform
    · exact (hstub s).trans (stub_eq_tableTick hill hop r)

/-! ### The extra cycle -/

/-- Only an indexed word leaves its page (40_execution R143 to R154). -/
theorem mode_of_cross {f : Form} {s : State} {a : Word} (h : effectiveAddress f s = .ok (a, true)) :
    modeOf f ∈ [.ABX, .ABY, .IZY] := by
  cases f
  case abx | aby | izy => simp [modeOf]
  case ind | izx =>
    obtain ⟨w, -, h⟩ := bind_ok h
    cases h
  all_goals cases h

/-- The mnemonics whose routine returns 1 (40_execution R156). -/
theorem routineExtra_eq (m : Mnemonic) :
    routineExtra m = decide (m ∈ [.ADC, .AND, .CMP, .EOR, .LDA, .LDX, .LDY, .ORA, .SBC]) := by
  cases m <;> rfl

/-- The mnemonics of the branches (44_control_flow R231 to R238). -/
def branchMnemonics : List Mnemonic := [.BCC, .BCS, .BEQ, .BMI, .BNE, .BPL, .BVC, .BVS]

/-- A branch has mode REL alone (30_encoding R114). -/
theorem modeOf_branch {m : Mnemonic} (hm : m ∈ branchMnemonics) {f : Form} {i : Instr}
    (h : assemble m f = some i) : modeOf f = .REL := by
  obtain ⟨hop, -⟩ := entry_of_assemble h
  by_contra hrel
  simp only [branchMnemonics, List.mem_cons, List.not_mem_nil, or_false] at hm
  rcases hm with rfl | rfl | rfl | rfl | rfl | rfl | rfl | rfl <;> simp [opcodeAt, hrel] at hop

/-- What a routine returns (40_execution R156): its mnemonic's `opcodeExtra`, and no branch cycle unless it is a
branch's. -/
theorem routine_extra {m : Mnemonic} (hm : m ∉ branchMnemonics) {mode : Mode} {f : Form} {s : State} {e : Effect}
    (h : routineOf (entry m mode 0) f s = .ok e) : e.opcodeExtra = routineExtra m ∧ e.branchExtra = 0 := by
  cases m
  case BCC | BCS | BEQ | BMI | BNE | BPL | BVC | BVS => exact absurd (by decide) hm
  case INC | DEC | ASL | LSR | ROL | ROR =>
    obtain ⟨⟨t, v⟩, -, h⟩ := bind_ok h
    obtain ⟨u, -, h⟩ := bind_ok h
    obtain rfl := Except.ok.inj h
    exact ⟨rfl, rfl⟩
  case ADC | AND | BIT | CMP | CPX | CPY | EOR | LDA | LDX | LDY | ORA | SBC | PLA | PLP | RTS =>
    obtain ⟨⟨t, v⟩, -, h⟩ := bind_ok h
    obtain rfl := Except.ok.inj h
    exact ⟨rfl, rfl⟩
  case STA | STX | STY | JSR | PHA | PHP | BRK | RTI =>
    obtain ⟨t, -, h⟩ := bind_ok h
    obtain rfl := Except.ok.inj h
    exact ⟨rfl, rfl⟩
  all_goals
    obtain rfl := Except.ok.inj h
    exact ⟨rfl, rfl⟩

/-- Settles O13: the tick adds a cycle when the mode and the routine both return 1, and only an indexed mode does. -/
theorem extraCycleNeedsModeAndRoutine : Obligations.ExtraCycleNeedsModeAndRoutine := by
  unfold Obligations.ExtraCycleNeedsModeAndRoutine
  intro m f i s t a cross ha hrel haddr h
  rw [addressOf, formOf_of_assemble ha] at haddr
  rw [exec_of_assemble ha] at h
  obtain ⟨u, c, e, hu, he, rfl⟩ := tick_ok (outcomeOf_next h)
  obtain ⟨-, rfl⟩ := Prod.mk.inj (Except.ok.inj ((resolve_eq haddr).symm.trans hu))
  obtain ⟨hextra, hbranch⟩ := routine_extra (fun hm => hrel (modeOf_branch hm ha)) he
  rw [finish_cycles, hextra, hbranch, routineExtra_eq]
  cases cross with
  | false => simp
  | true => simp [mode_of_cross haddr, Bool.toNat]

end Sys2Proof.Machine
end

section
/-! PROOFS. Loads, stores and transfers (41_load_store_transfer R170 to R181): what each group's opcode routines leave,
said once for the group, and the fetch tick around them. -/

namespace Sys2Proof.Machine

/-! ### The fetch tick around a routine -/

/-- PC past the opcode and its operand bytes is the next instruction (10_state R24). -/
theorem pc_past_operands {i : Instr} {f : Form} (h : formOf i = f) (s : State) :
    s.pc + 1 + BitVec.ofNat 16 (operandCount (modeOf f)) = nextPc i s := by
  rw [nextPc, lengthOf, h, BitVec.ofNat_add, BitVec.add_assoc]
  rfl

/-- An instruction ran, when its routine left alone the opcode register and the branch offset that the addressing
routine set (40_execution R140). -/
theorem ran_of_exec {i : Instr} {f : Form} {s t : State} (hf : formOf i = f) (h : exec i s = .next t)
    (hop : t.opcode = opcodeOf i) (a : Word)
    (hrel : t.addrRel = (resolved f (afterOpcode (opcodeOf i) s) a).addrRel) : Ran i s t := by
  obtain ⟨hkeeps, hunused, hcomplete⟩ := exec_keeps h
  refine ⟨hop, hcomplete, hunused, hrel.trans ?_, hkeeps.devices⟩
  rw [hf]
  cases f <;> rfl

/-- The flags after a fetch tick whose routine sets Z and N from `v` (40_execution R140, R155). -/
theorem flags_of_setZN {p q v : Byte} (h : q = setFlag (setFlag (setFlag p .U true) .Z (v == 0)) .N (bit7 v)) :
    getFlag q .Z = (v == 0) ∧ getFlag q .N = bit7 v ∧ sameFlagsBut [.Z, .N, .U] p q := by
  subst h
  refine ⟨by simp, by simp, fun g hg => ?_⟩
  obtain ⟨hZ, hN, hU⟩ : g ≠ .Z ∧ g ≠ .N ∧ g ≠ .U := by simpa using hg
  simp [hZ, hN, hU]

/-- The flags after a fetch tick whose routine sets none (40_execution R140). -/
theorem sameFlagsBut_setUnused (p : Byte) : sameFlagsBut [.U] p (setFlag p .U true) := by
  intro g hg
  have hU : g ≠ .U := by simpa using hg
  simp [hU]

/-- A mnemonic without an opcode in mode IMP has no accumulator form (30_encoding R114). -/
theorem form_ne_imp {m : Mnemonic} (hm : opcodeAt m .IMP = none) {f : Form} {i : Instr}
    (h : assemble m f = some i) : f ≠ .imp := by
  rintro rfl
  exact Option.some_ne_none _ ((entry_of_assemble h).1.symm.trans hm)

/-! ### The cell that answers in each region -/

/-- RAM answers below 0x2000 (20_memory R63). -/
theorem targetOf_ramWindow (s : State) {a : Word} (h : a.toNat < 0x2000) :
    targetOf s a = .ram (a.toNat % 2048) := by
  rw [targetOf_low s (by omega), windowTarget_eq, if_pos h]

/-- A picture-unit register answers from 0x2000 to 0x3FFF (20_memory R64). -/
theorem targetOf_ppuRegWindow (s : State) {a : Word} (hlo : 0x2000 ≤ a.toNat) (hhi : a.toNat < 0x4000) :
    targetOf s a = .ppuReg (a.toNat % 8) := by
  rw [targetOf_low s (by omega), windowTarget_eq, if_neg (by omega), if_pos hhi]

/-- Nothing answers from 0x4000 to 0x7FFF (20_memory R65). -/
theorem targetOf_unmappedWindow (s : State) {a : Word} (hlo : 0x4000 ≤ a.toNat) (hhi : a.toNat < 0x8000) :
    targetOf s a = .unmapped := by
  rw [targetOf_low s hhi, windowTarget_eq, if_neg (by omega), if_neg (by omega)]

/-! ### Loads -/

/-- The mnemonics of the loads (41_load_store_transfer R170 to R172). -/
def loadMnemonics : List Mnemonic := [.LDA, .LDX, .LDY]

/-- The state with `v` in the register that load `m` writes, and Z and N after it. -/
def State.load (s : State) (m : Mnemonic) (v : Byte) : State :=
  { s.setZN v with
    a := if m = .LDA then v else s.a
    x := if m = .LDX then v else s.x
    y := if m = .LDY then v else s.y }

theorem load_routine {m : Mnemonic} (hm : m ∈ loadMnemonics) {mode : Mode} {f : Form} {s t : State} {v : Byte}
    (h : operand f s = .ok (t, v)) : routineOf (entry m mode 0) f s = .ok (crossing (t.load m v)) := by
  simp only [loadMnemonics, List.mem_cons, List.not_mem_nil, or_false] at hm
  rcases hm with rfl | rfl | rfl <;> simp only [routineOf, entry, opLda, opLdx, opLdy, h] <;> rfl

/-- No load has mode IMP (30_encoding R114). -/
theorem load_opcodeAt_imp : ∀ m ∈ loadMnemonics, opcodeAt m .IMP = none := by decide

/-- The operand of a memory form is the byte of the cell that the bus decodes its address to. -/
theorem operandAt_memory {f : Form} (himp : f ≠ .imp) (himm : modeOf f ≠ .IMM) (s : State) (a : Word) :
    operandAt f s a = readTarget s (targetOf s a) := by
  cases f
  case imp => exact absurd rfl himp
  case imm => exact absurd rfl himm
  all_goals rfl

/-- Settles O14: the load takes the operand that its mode gives, and the operand is the byte of a cell unless it is
immediate. -/
theorem loadsTakeTheOperand : Obligations.LoadsTakeTheOperand := by
  unfold Obligations.LoadsTakeTheOperand
  intro m f i s hm ha hr
  obtain ⟨a, c, haddr, hoperand, hfetch, hexec⟩ := exec_of_assemble_ready ha hr
  have hnext := hexec _ (load_routine hm hfetch)
  have hform := formOf_of_assemble ha
  have hcell := operandAt_memory (s := s) (a := a) (form_ne_imp (load_opcodeAt_imp m hm) ha)
  generalize operandAt f s a = v at hoperand hnext hcell
  obtain ⟨hZ, hN, hother⟩ := flags_of_setZN (p := s.p) (v := v) rfl
  have hunmapped (himm : modeOf f ≠ .IMM) (hlo : 0x4000 ≤ a.toNat) (hhi : a.toNat < 0x8000) : v = 0 := by
    rw [hcell himm, targetOf_unmappedWindow s hlo hhi]
    rfl
  refine ⟨v, a, c, _, hoperand, haddr, (entry_of_assemble ha).1, hnext, ran_of_exec hform hnext rfl a rfl,
    ⟨rfl, rfl, rfl, rfl⟩, hZ, hN, hother, pc_past_operands hform s, by simp, rfl, rfl, ⟨rfl, rfl, rfl⟩,
    fun himm hlo hhi => ?_, fun himm hlo hhi => ⟨hunmapped himm hlo hhi, ?_⟩⟩
  · rw [hcell himm, targetOf_ppuRegWindow s hlo hhi]
    rfl
  · exact hZ.trans (beq_iff_eq.mpr (hunmapped himm hlo hhi))

/-! ### Stores -/

/-- The mnemonics of the stores (41_load_store_transfer R173 to R175). -/
def storeMnemonics : List Mnemonic := [.STA, .STX, .STY]

/-- The register that store `m` writes to memory. -/
def storedRegister (m : Mnemonic) (s : State) : Byte :=
  if m = .STA then s.a else if m = .STX then s.x else s.y

theorem store_routine {m : Mnemonic} (hm : m ∈ storeMnemonics) {mode : Mode} {f : Form} {s : State}
    (h : busReady s = true) : routineOf (entry m mode 0) f s =
      .ok (plain (writeTarget s (targetOf s s.addrAbs) (storedRegister m s))) := by
  simp only [storeMnemonics, List.mem_cons, List.not_mem_nil, or_false] at hm
  rcases hm with rfl | rfl | rfl <;>
    simp only [routineOf, entry, opSta, opStx, opSty, memWrite_ready h] <;> rfl

/-- No store has mode IMP (30_encoding R114). -/
theorem store_opcodeAt_imp : ∀ m ∈ storeMnemonics, opcodeAt m .IMP = none := by decide

/-- A cell that keeps what is written to it holds the byte stored at its address. -/
theorem storedAt.read {s t : State} {a : Word} {v : Byte} {k : Target} (h : storedAt s t a v)
    (hr : busReady s = true) (hk : targetOf s a = k) (haccepts : accepts s k = true) : readTarget t k = v := by
  rw [h k (by rw [busDecode_ready hr, hk]), if_pos haccepts]

/-- Writable program memory holds the byte stored at its address, at the offset mapper 0 gives it (20_memory R67,
R68). -/
theorem storedAt.read_prg {s t : State} {a : Word} {v : Byte} {c : Cartridge} (h : storedAt s t a v)
    (hr : busReady s = true) (htarget : targetOf t a = targetOf s a) (ha : 0x8000 ≤ a.toNat)
    (hw : s.cfg.prgWritable = true) (hc : t.cart = some c) :
    c.prg.read (if c.header.prgBanks.toNat ≤ 1 then a.toNat % 16384 else a.toNat % 32768) = v := by
  have hcell := targetOf_upper t (Nat.not_lt.mpr ha)
  rw [hc] at hcell
  simpa only [readTarget, hc] using h.read hr (htarget.symm.trans hcell) hw

/-- What a store leaves: the write of its register at its address, in the state after its addressing routine. -/
theorem store_exec {m : Mnemonic} (hm : m ∈ storeMnemonics) {f : Form} {i : Instr} (ha : assemble m f = some i)
    {s : State} (hr : busReady s = true) : ∃ a c, addressOf i s = .ok (a, c) ∧
      exec i s = .next (finish (baseCyclesOf i) c (plain
        (writeTarget (resolved f (afterOpcode (opcodeOf i) s) a) (targetOf s a) (storedRegister m s)))) := by
  obtain ⟨a, c, haddr, -, -, hexec⟩ := exec_of_assemble_ready ha hr
  exact ⟨a, c, haddr, hexec _ (store_routine hm hr)⟩

/-- Settles O15: the store writes the cell that the bus decodes its address to, and each region names that cell. -/
theorem storesWriteTheRegister : Obligations.StoresWriteTheRegister := by
  unfold Obligations.StoresWriteTheRegister
  intro m f i s r hm ha hr hinv hreg
  obtain ⟨a, c, haddr, hnext⟩ := store_exec hm ha hr
  rw [show storedRegister m s = r from hreg.symm] at hnext
  have hform := formOf_of_assemble ha
  have hsame : sameStores s (resolved f (afterOpcode (opcodeOf i) s) a) := ⟨rfl, rfl, rfl⟩
  obtain ⟨hstored, hframe⟩ := write_stores (a := a) (v := r) hr hinv.canonical hsame rfl
    (t := finish (baseCyclesOf i) c (plain (writeTarget _ (targetOf s a) r))) ⟨rfl, rfl, rfl⟩
  refine ⟨a, c, _, haddr, (entry_of_assemble ha).1, hnext,
    ran_of_exec hform hnext (writeTarget_opcode ..) a (writeTarget_addrRel ..),
    ⟨writeTarget_a .., writeTarget_x .., writeTarget_y .., writeTarget_sp ..⟩, ?_,
    (writeTarget_pc ..).trans (pc_past_operands hform s), by simp,
    (writeTarget_fetched ..).trans (if_neg (form_ne_imp (store_opcodeAt_imp m hm) ha)), writeTarget_addrAbs ..,
    hstored, hframe, fun hlt => ?_, fun hlo hhi => ?_, fun hlo hhi => ?_, fun hlo hw k hk => ?_⟩
  · rw [finish_p, plain_state, writeTarget_p]
    exact sameFlagsBut_setUnused s.p
  · exact hstored.read hr (targetOf_ramWindow s hlt) rfl
  · exact hstored.read hr (targetOf_ppuRegWindow s hlo hhi) rfl
  · rw [targetOf_unmappedWindow s hlo hhi]
    exact hsame
  · exact hstored.read_prg hr (targetOf_writeTarget ..) hlo hw hk

/-! ### Transfers -/

/-- The mnemonics of the transfers (41_load_store_transfer R176 to R181). -/
def transferMnemonics : List Mnemonic := [.TAX, .TAY, .TSX, .TXA, .TXS, .TYA]

/-- The register that transfer `m` copies, when Z and N follow it; for TXS, which sets no flag, it is not used. -/
def transferSource (m : Mnemonic) (s : State) : Byte :=
  if m = .TAX ∨ m = .TAY then s.a else if m = .TSX then s.sp else if m = .TXA then s.x else s.y

/-- The state after transfer `m`. -/
def State.transfer (s : State) (m : Mnemonic) : State :=
  { s with
    p := if m = .TXS then s.p else (s.setZN (transferSource m s)).p
    a := if m = .TXA then s.x else if m = .TYA then s.y else s.a
    x := if m = .TAX then s.a else if m = .TSX then s.sp else s.x
    y := if m = .TAY then s.a else s.y
    sp := if m = .TXS then s.x else s.sp }

theorem State.transfer_p (s : State) (m : Mnemonic) :
    (s.transfer m).p = if m = .TXS then s.p else (s.setZN (transferSource m s)).p := rfl

theorem transfer_routine {m : Mnemonic} (hm : m ∈ transferMnemonics) {mode : Mode} (f : Form) (s : State) :
    routineOf (entry m mode 0) f s = .ok (plain (s.transfer m)) := by
  simp only [transferMnemonics, List.mem_cons, List.not_mem_nil, or_false] at hm
  rcases hm with rfl | rfl | rfl | rfl | rfl | rfl <;> rfl

/-- Every transfer takes two cycles (30_encoding R114). -/
theorem transfer_baseCycles {m : Mnemonic} (hm : m ∈ transferMnemonics) {i : Instr}
    (h : assemble m .imp = some i) : baseCyclesOf i = 2 := by
  simp only [transferMnemonics, List.mem_cons, List.not_mem_nil, or_false] at hm
  rcases hm with rfl | rfl | rfl | rfl | rfl | rfl <;> cases h <;> rfl

/-- Settles O16: the transfer copies its source, in mode IMP, which needs no bus. -/
theorem transfersCopyARegister : Obligations.TransfersCopyARegister := by
  unfold Obligations.TransfersCopyARegister
  intro m i s hm ha
  have hnext := exec_of_assemble_imp (s := s) ha (transfer_routine hm _ _)
  refine ⟨_, (entry_of_assemble ha).1, hnext, ran_of_exec (formOf_of_assemble ha) hnext rfl s.addrAbs rfl,
    ⟨rfl, rfl, rfl, rfl⟩, fun hTXS => ?_, fun hTXS => ?_, rfl, transfer_baseCycles hm ha, rfl, rfl,
    ⟨rfl, rfl, rfl⟩⟩
  · rw [finish_p, plain_state, State.transfer_p, if_pos hTXS]
    exact sameFlagsBut_setUnused s.p
  · obtain ⟨hZ, hN, hother⟩ := flags_of_setZN (p := s.p) (v := transferSource m s) rfl
    rw [State.flag, State.flag, finish_p, plain_state, State.transfer_p, if_neg hTXS]
    exact ⟨hother, fun v hv => hv ▸ ⟨hZ, hN⟩⟩

end Sys2Proof.Machine
end

section
/-! PROOFS. The adder, the subtraction and the comparison in exact arithmetic (42_arithmetic_logic R190, R191, R195,
R206): each flag as a statement about the numbers that the bytes stand for. -/

namespace Sys2Proof.Machine

/-! ### Signed bytes -/

/-- Bit 7 says that the byte is at least 128. -/
theorem bit7_eq_decide (b : Byte) : bit7 b = decide (128 ≤ b.toNat) :=
  (BitVec.msb_eq_getLsbD_last b).symm.trans (BitVec.msb_eq_decide b)

/-- The signed value of a byte: bit 7 counts for -128, not for 128. -/
theorem toInt_eq_of_bit7 (b : Byte) : b.toInt = if bit7 b = true then (b.toNat : Int) - 256 else b.toNat := by
  rw [BitVec.toInt_eq_msb_cond, BitVec.msb_eq_getLsbD_last]
  rfl

/-- Complementing a byte takes its number from 255 and its signed value from -1. -/
theorem complement_toNat (m : Byte) : (m ^^^ 0xFF).toNat = 255 - m.toNat := by
  rw [show (0xFF : Byte) = BitVec.allOnes 8 from rfl, BitVec.xor_allOnes, BitVec.toNat_not]

theorem complement_toInt (m : Byte) : (m ^^^ 0xFF).toInt = -1 - m.toInt := by
  have hm := m.isLt
  simp only [toInt_eq_of_bit7, bit7_eq_decide, complement_toNat, decide_eq_true_eq]
  omega

/-! ### The adder -/

/-- V by the signs: two operands of one sign give a result of the other, which is signed overflow (R206). -/
theorem addWithCarry_v (a m : Byte) (c : Bool) : (addWithCarry a m c).v =
    decide (a.toInt + m.toInt + c.toNat < -128 ∨ 127 < a.toInt + m.toInt + c.toNat) := by
  have ha := a.isLt
  have hm := m.isLt
  have hc := c.toNat_le
  rw [Bool.eq_iff_iff]
  simp only [addWithCarry, toInt_eq_of_bit7, bit7_eq_decide, BitVec.toNat_ofNat, Bool.and_eq_true, beq_iff_eq,
    bne_iff_ne, ne_eq, decide_eq_decide, decide_eq_true_eq]
  split <;> split <;> omega

theorem addWithCarry_c (a m : Byte) (c : Bool) :
    (addWithCarry a m c).c = decide (256 ≤ a.toNat + m.toNat + c.toNat) := rfl

/-- Masking with 0x80 leaves bit 7. -/
theorem and_0x80_bne_zero (b : Byte) : (b &&& 0x80 != 0) = bit7 b := by
  rw [show (0x80 : Byte) = BitVec.twoPow 8 7 from rfl, BitVec.and_twoPow, bit7]
  cases b.getLsbD 7 <;> rfl

/-- The exclusive-or form of V by the bits 7 (R206). -/
theorem overflowXor_eq (a m t : Byte) : overflowXor a m t = (!(bit7 a ^^ bit7 m) && (bit7 a ^^ bit7 t)) := by
  rw [overflowXor, and_0x80_bne_zero]
  simp [bit7]

/-- Settles O19: both forms compare the bits 7, and that comparison is signed overflow. -/
theorem overflowFormsAgree : Obligations.OverflowFormsAgree := by
  unfold Obligations.OverflowFormsAgree
  intro a m c
  refine ⟨?_, addWithCarry_v a m c⟩
  rw [overflowXor_eq]
  simp only [addWithCarry]
  cases bit7 a <;> cases bit7 m <;> simp

/-! ### Subtraction: the adder with the operand complemented (R191) -/

theorem subWithCarry_result (a m : Byte) (c : Bool) :
    (subWithCarry a m c).result = BitVec.ofInt 8 (a.toNat - m.toNat - (!c).toNat) := by
  have hm := m.isLt
  have hc : (!c).toNat = 1 - c.toNat := by cases c <;> rfl
  have hc1 := c.toNat_le
  apply BitVec.eq_of_toNat_eq
  simp only [subWithCarry, addWithCarry, complement_toNat, hc, BitVec.toNat_ofNat, BitVec.toNat_ofInt]
  omega

/-- C afterwards says that nothing was borrowed. -/
theorem subWithCarry_c (a m : Byte) (c : Bool) :
    (subWithCarry a m c).c = decide (m.toNat + (!c).toNat ≤ a.toNat) := by
  have hm := m.isLt
  rw [subWithCarry, addWithCarry_c, complement_toNat, decide_eq_decide]
  cases c <;> simp <;> omega

theorem subWithCarry_v (a m : Byte) (c : Bool) : (subWithCarry a m c).v =
    decide (a.toInt - m.toInt - (!c).toNat < -128 ∨ 127 < a.toInt - m.toInt - (!c).toNat) := by
  have hsum : a.toInt + (-1 - m.toInt) + c.toNat = a.toInt - m.toInt - (!c).toNat := by
    cases c <;> simp <;> omega
  rw [subWithCarry, addWithCarry_v, complement_toInt, hsum]

/-! ### The comparison (R195) -/

theorem bit7_sub (r m : Byte) : bit7 (r - m) = decide (128 ≤ (r.toNat + 256 - m.toNat) % 256) := by
  have hm := m.isLt
  rw [bit7_eq_decide, BitVec.toNat_sub, show 2 ^ 8 - m.toNat + r.toNat = r.toNat + 256 - m.toNat by omega]

theorem sub_beq_zero (r m : Byte) : (r - m == 0) = decide (r = m) := by
  rw [beq_eq_decide, decide_eq_decide, sub_eq_zero]

end Sys2Proof.Machine
end

section
/-! PROOFS. Arithmetic, logic, compare, increment and decrement (42_arithmetic_logic R190 to R204): what the opcode
routines that read an operand and write A and P leave, said once for all of them, and the same for those that change a
byte of memory and those that change a register. -/

namespace Sys2Proof.Machine

/-- The state after the addressing routine of `i` in form `f` has left address `a` and the operand fetch byte `v`
(40_execution R140, R142). -/
def operandFetched (i : Instr) (f : Form) (s : State) (a : Word) (v : Byte) : State :=
  { resolved f (afterOpcode (opcodeOf i) s) a with fetched := v }

/-! ### The instructions that work on A and an operand -/

/-- The mnemonics whose routine reads an operand and writes nothing but A and P (42_arithmetic_logic R190 to R198). -/
def aluMnemonics : List Mnemonic := [.ADC, .SBC, .AND, .ORA, .EOR, .BIT, .CMP, .CPX, .CPY]

/-- The register that compare `m` compares (42_arithmetic_logic R195 to R197). -/
def comparedRegister (m : Mnemonic) (s : State) : Byte :=
  if m = .CMP then s.a else if m = .CPX then s.x else s.y

/-- What logic instruction `m` makes of A and the operand (42_arithmetic_logic R192 to R194). -/
def logicResult (m : Mnemonic) (a v : Byte) : Byte :=
  if m = .AND then a &&& v else if m = .ORA then a ||| v else a ^^^ v

/-- The state after instruction `m` has worked on operand `v`. -/
def State.alu (s : State) (m : Mnemonic) (v : Byte) : State :=
  match m with
  | .ADC => s.setAlu (addWithCarry s.a v (s.flag .C))
  | .SBC => s.setAlu (subWithCarry s.a v (s.flag .C))
  | .AND | .ORA | .EOR => { s.setZN (logicResult m s.a v) with a := logicResult m s.a v }
  | .BIT => ((s.setFlag .Z ((s.a &&& v) == 0)).setFlag .N (bit7 v)).setFlag .V (v.getLsbD 6)
  | .CMP | .CPX | .CPY => s.setCompare (comparedRegister m s) v
  | _ => s

theorem alu_routine {m : Mnemonic} (hm : m ∈ aluMnemonics) (mode : Mode) (f : Form) (s : State) :
    routineOf (entry m mode 0) f s = operand f s >>= fun r =>
      .ok { state := r.1.alu m r.2, opcodeExtra := routineExtra m, branchExtra := 0 } := by
  cases m
  case ADC | SBC | AND | ORA | EOR | BIT | CMP | CPX | CPY => rfl
  all_goals exact absurd hm (by decide)

theorem State.setAlu_eq (s : State) (o : AluOut) :
    s.setAlu o = { s with a := (s.setAlu o).a, p := (s.setAlu o).p } := rfl

/-- Only A and P are written. -/
theorem State.alu_eq (s : State) (m : Mnemonic) (v : Byte) :
    s.alu m v = { s with a := (s.alu m v).a, p := (s.alu m v).p } := by
  cases m
  case ADC | SBC => exact s.setAlu_eq _
  all_goals rfl

/-- No result and no flag but U depends on U, which the fetch tick sets. -/
theorem State.alu_congr {s u : State} (ha : u.a = s.a) (hx : u.x = s.x) (hy : u.y = s.y)
    (hp : u.p = Machine.setFlag s.p .U true) (m : Mnemonic) (v : Byte) :
    (u.alu m v).a = (s.alu m v).a ∧ ∀ g, g ≠ .U → (u.alu m v).flag g = (s.alu m v).flag g := by
  have hflag (g : Flag) (hg : g ≠ .U) : getFlag u.p g = getFlag s.p g := by simp [hp, hg]
  cases m <;>
    simp +contextual [State.alu, State.flag, comparedRegister, ha, hx, hy, hflag]

/-- The fetch tick of an instruction that works on A and an operand: its operand and address, the state that it leaves,
and the extra cycle for the routines that return 1 (40_execution R140, R156). -/
theorem alu_exec {m : Mnemonic} (hm : m ∈ aluMnemonics) {f : Form} {i : Instr} (ha : assemble m f = some i) {s : State}
    (hr : busReady s = true) : ∃ v a cross t, operandOf i s = .ok v ∧ addressOf i s = .ok (a, cross) ∧
      opcodeAt m (modeOf f) = some (opcodeOf i) ∧ exec i s = .next t ∧ Ran i s t ∧
      regsAre t (s.alu m v).a s.x s.y s.sp ∧ (∀ g, g ≠ .U → t.flag g = (s.alu m v).flag g) ∧
      t.pc = nextPc i s ∧ t.cycles = baseCyclesOf i + (cross && routineExtra m).toNat ∧
      t.fetched = v ∧ t.addrAbs = a ∧ sameStores s t := by
  obtain ⟨a, c, haddr, hoperand, hfetch, hexec⟩ := exec_of_assemble_ready ha hr
  have hnext := hexec _ ((alu_routine hm ..).trans (by rw [hfetch]; rfl))
  have hform := formOf_of_assemble ha
  generalize operandAt f s a = v at hoperand hnext
  obtain ⟨hA, hflags⟩ := State.alu_congr (s := s) (u := operandFetched i f s a v) rfl rfl rfl rfl m v
  rw [State.alu_eq] at hnext
  exact ⟨v, a, c, _, hoperand, haddr, (entry_of_assemble ha).1, hnext, ran_of_exec hform hnext rfl a rfl,
    ⟨hA, rfl, rfl, rfl⟩, hflags, pc_past_operands hform s, rfl, rfl, rfl, rfl, rfl, rfl⟩

/-- A flag that an instruction leaves alone is the same after the fetch tick, unless it is U. -/
theorem sameFlagsBut_of_alu {fs : List Flag} {s t u : State} (hU : .U ∈ fs)
    (ht : ∀ g, g ≠ .U → t.flag g = u.flag g) (hu : ∀ g, g ∉ fs → u.flag g = s.flag g) :
    sameFlagsBut fs s.p t.p :=
  fun g hg => (ht g fun h => hg (h ▸ hU)).trans (hu g hg)

/-! ### ADC and SBC -/

/-- The flags after the adder's result is taken (R190). -/
theorem State.setAlu_flags (s : State) (o : AluOut) :
    (s.setAlu o).flag .C = o.c ∧ (s.setAlu o).flag .Z = o.z ∧ (s.setAlu o).flag .V = o.v ∧
      (s.setAlu o).flag .N = o.n ∧ ∀ g, g ∉ [.C, .Z, .V, .N, .U] → (s.setAlu o).flag g = s.flag g := by
  simp +contextual [State.flag]

/-- Settles O17: the tick takes the adder's result and flags, and V is signed overflow. -/
theorem adcAddsWithCarry : Obligations.AdcAddsWithCarry := by
  unfold Obligations.AdcAddsWithCarry
  intro f i s ha hr
  obtain ⟨v, a, c, t, hoperand, haddr, hop, hnext, hran, ⟨hA, hregs⟩, hflags, hpc, hcycles, hrest⟩ :=
    alu_exec (by decide) ha hr
  obtain ⟨hC, hZ, hV, hN, hother⟩ := s.setAlu_flags (addWithCarry s.a v (s.flag .C))
  refine ⟨v, a, c, t, hoperand, haddr, hop, hnext, hran, ⟨hA, hregs⟩, ?_, ?_, ?_, ?_,
    sameFlagsBut_of_alu (by decide) hflags hother, hpc, ?_, hrest⟩
  · exact (hflags .C (by decide)).trans hC
  · rw [hA]
    exact (hflags .Z (by decide)).trans hZ
  · rw [hA]
    exact (hflags .N (by decide)).trans hN
  · exact ((hflags .V (by decide)).trans hV).trans (addWithCarry_v ..)
  · rw [hcycles, routineExtra, Bool.and_true]

/-- Settles O18: the tick takes the result and the flags of the adder of A and the complemented operand, which are those
of the difference. -/
theorem sbcSubtractsWithBorrow : Obligations.SbcSubtractsWithBorrow := by
  unfold Obligations.SbcSubtractsWithBorrow
  intro f i s ha hr
  obtain ⟨v, a, c, t, hoperand, haddr, hop, hnext, hran, ⟨hA, hregs⟩, hflags, hpc, hcycles, hfetched, habs, hstores⟩ :=
    alu_exec (by decide) ha hr
  obtain ⟨hC, hZ, hV, hN, hother⟩ := s.setAlu_flags (subWithCarry s.a v (s.flag .C))
  replace hC := (hflags .C (by decide)).trans hC
  replace hV := (hflags .V (by decide)).trans hV
  refine ⟨v, a, c, t, hoperand, haddr, hop, hnext, hran, ⟨hA.trans (subWithCarry_result ..), hregs⟩,
    hC.trans (subWithCarry_c ..), ?_, ?_, hV.trans (subWithCarry_v ..),
    sameFlagsBut_of_alu (by decide) hflags hother, hpc, ?_, hfetched, habs, hstores, hA, hC,
    hV.trans (addWithCarry_v ..)⟩
  · rw [hA]
    exact (hflags .Z (by decide)).trans hZ
  · rw [hA]
    exact (hflags .N (by decide)).trans hN
  · rw [hcycles, routineExtra, Bool.and_true]

/-! ### AND, ORA, EOR and BIT -/

/-- The flags after `SetZN` (40_execution R155). -/
theorem State.setZN_flags (s : State) (v : Byte) : (s.setZN v).flag .Z = (v == 0) ∧ (s.setZN v).flag .N = bit7 v ∧
    ∀ g, g ∉ [.Z, .N, .U] → (s.setZN v).flag g = s.flag g := by
  simp +contextual [State.flag]

/-- The mnemonics of the logic instructions (42_arithmetic_logic R192 to R194). -/
def logicMnemonics : List Mnemonic := [.AND, .ORA, .EOR]

theorem State.alu_logic {m : Mnemonic} (hm : m ∈ logicMnemonics) (s : State) (v : Byte) :
    s.alu m v = { s.setZN (logicResult m s.a v) with a := logicResult m s.a v } := by
  simp only [logicMnemonics, List.mem_cons, List.not_mem_nil, or_false] at hm
  rcases hm with rfl | rfl | rfl <;> rfl

theorem logicResult_getLsbD (m : Mnemonic) (a v : Byte) (k : Nat) :
    (logicResult m a v).getLsbD k = if m = .AND then a.getLsbD k && v.getLsbD k
      else if m = .ORA then a.getLsbD k || v.getLsbD k else a.getLsbD k ^^ v.getLsbD k := by
  unfold logicResult
  split
  · exact BitVec.getLsbD_and
  · split
    · exact BitVec.getLsbD_or
    · exact BitVec.getLsbD_xor

/-- Settles O20: the tick takes the logic instruction's result, and Z and N follow it. -/
theorem logicWorksBitByBit : Obligations.LogicWorksBitByBit := by
  unfold Obligations.LogicWorksBitByBit
  intro m f i s hm ha hr
  have hextra : routineExtra m = true := (by decide : ∀ m ∈ logicMnemonics, routineExtra m = true) m hm
  obtain ⟨v, a, c, t, hoperand, haddr, hop, hnext, hran, ⟨hA, hregs⟩, hflags, hpc, hcycles, hrest⟩ :=
    alu_exec ((by decide : logicMnemonics ⊆ aluMnemonics) hm) ha hr
  rw [State.alu_logic hm] at hA hflags
  obtain ⟨hZ, hN, hother⟩ := s.setZN_flags (logicResult m s.a v)
  refine ⟨v, a, c, t, hoperand, haddr, hop, hnext, hran, ⟨rfl, hregs⟩, fun k => ?_, ?_, ?_,
    sameFlagsBut_of_alu (by decide) hflags hother, hpc, ?_, hrest⟩
  · rw [hA, logicResult_getLsbD]
  · rw [hA]
    exact (hflags .Z (by decide)).trans hZ
  · rw [hA]
    exact (hflags .N (by decide)).trans hN
  · rw [hcycles, hextra, Bool.and_true]

/-- The flags after BIT (R198). -/
theorem State.alu_bit_flags (s : State) (v : Byte) : (s.alu .BIT v).flag .Z = (s.a &&& v == 0) ∧
    (s.alu .BIT v).flag .N = v.getLsbD 7 ∧ (s.alu .BIT v).flag .V = v.getLsbD 6 ∧
    ∀ g, g ∉ [.Z, .N, .V, .U] → (s.alu .BIT v).flag g = s.flag g := by
  simp +contextual [State.alu, State.flag, bit7]

/-- Settles O21: the tick sets the three flags and leaves A. -/
theorem bitTestsTheOperand : Obligations.BitTestsTheOperand := by
  unfold Obligations.BitTestsTheOperand
  intro f i s ha hr
  obtain ⟨v, a, c, t, hoperand, haddr, hop, hnext, hran, hregs, hflags, hpc, hcycles, hrest⟩ :=
    alu_exec (by decide) ha hr
  obtain ⟨hZ, hN, hV, hother⟩ := s.alu_bit_flags v
  refine ⟨v, a, c, t, hoperand, haddr, hop, hnext, hran, hregs, (hflags .Z (by decide)).trans hZ,
    (hflags .N (by decide)).trans hN, (hflags .V (by decide)).trans hV,
    sameFlagsBut_of_alu (by decide) hflags hother, hpc, ?_, hrest⟩
  rw [hcycles, show routineExtra .BIT = false from rfl, Bool.and_false, Bool.toNat_false, Nat.add_zero]

/-! ### CMP, CPX and CPY -/

/-- The mnemonics of the compares (42_arithmetic_logic R195 to R197). -/
def compareMnemonics : List Mnemonic := [.CMP, .CPX, .CPY]

theorem State.alu_compare {m : Mnemonic} (hm : m ∈ compareMnemonics) (s : State) (v : Byte) :
    s.alu m v = s.setCompare (comparedRegister m s) v := by
  simp only [compareMnemonics, List.mem_cons, List.not_mem_nil, or_false] at hm
  rcases hm with rfl | rfl | rfl <;> rfl

/-- The flags after a compare of `r` with `v` (R195). -/
theorem State.setCompare_flags (s : State) (r v : Byte) : (s.setCompare r v).flag .C = decide (v.toNat ≤ r.toNat) ∧
    (s.setCompare r v).flag .Z = decide (r = v) ∧
    (s.setCompare r v).flag .N = decide (128 ≤ (r.toNat + 256 - v.toNat) % 256) ∧
    ∀ g, g ∉ [.C, .Z, .N, .U] → (s.setCompare r v).flag g = s.flag g := by
  rw [← sub_beq_zero, ← bit7_sub]
  simp +contextual [State.flag]

/-- Of the compares CMP alone returns 1 (40_execution R156). -/
theorem compare_extraCycle {m : Mnemonic} (hm : m ∈ compareMnemonics) (c : Bool) :
    (c && routineExtra m).toNat = if m = .CMP then c.toNat else 0 := by
  rw [(by decide : ∀ m ∈ compareMnemonics, routineExtra m = decide (m = .CMP)) m hm]
  split <;> simp [*]

/-- Settles O22: the tick sets the flags of the compare and leaves the registers. -/
theorem comparesSetCarryZeroNegative : Obligations.ComparesSetCarryZeroNegative := by
  unfold Obligations.ComparesSetCarryZeroNegative
  intro m f i s r hm ha hr hreg
  obtain ⟨v, a, c, t, hoperand, haddr, hop, hnext, hran, hregs, hflags, hpc, hcycles, hrest⟩ :=
    alu_exec ((by decide : compareMnemonics ⊆ aluMnemonics) hm) ha hr
  rw [State.alu_compare hm, show comparedRegister m s = r from hreg.symm] at hregs hflags
  obtain ⟨hC, hZ, hN, hother⟩ := s.setCompare_flags r v
  exact ⟨v, a, c, t, hoperand, haddr, hop, hnext, hran, hregs, (hflags .C (by decide)).trans hC,
    (hflags .Z (by decide)).trans hZ, (hflags .N (by decide)).trans hN,
    sameFlagsBut_of_alu (by decide) hflags hother, hpc, compare_extraCycle hm c ▸ hcycles, hrest⟩

/-! ### INC and DEC -/

/-- A byte one up or one down modulo 256. -/
theorem add_one_eq_ofNat (v : Byte) : v + 1 = BitVec.ofNat 8 (v.toNat + 1) := by
  rw [BitVec.ofNat_add, BitVec.ofNat_toNat, BitVec.setWidth_eq]
  rfl

theorem sub_one_eq_ofNat (v : Byte) : v - 1 = BitVec.ofNat 8 (v.toNat + 255) := by
  rw [BitVec.ofNat_add, BitVec.ofNat_toNat, BitVec.setWidth_eq, BitVec.sub_eq_add_neg]
  rfl

/-- The mnemonics that change a byte of memory by one (42_arithmetic_logic R199, R202). -/
def stepMemoryMnemonics : List Mnemonic := [.INC, .DEC]

/-- The byte that INC or DEC stores. -/
def steppedByte (m : Mnemonic) (v : Byte) : Byte :=
  BitVec.ofNat 8 (if m = .INC then v.toNat + 1 else v.toNat + 255)

/-- The state with `v` in cell `k`, and Z and N after it. -/
def State.storeZN (s : State) (k : Target) (v : Byte) : State := (writeTarget s k v).setZN v

theorem State.storeZN_p (s : State) (k : Target) (v : Byte) :
    (s.storeZN k v).p = Machine.setFlag (Machine.setFlag s.p .Z (v == 0)) .N (bit7 v) := by
  rw [storeZN, setZN_p, writeTarget_p]

/-- Setting Z and N leaves the stores. -/
theorem State.storeZN_sameStores (s : State) (k : Target) (v : Byte) :
    sameStores (writeTarget s k v) (s.storeZN k v) := ⟨rfl, rfl, rfl⟩

theorem stepMemory_routine {m : Mnemonic} (hm : m ∈ stepMemoryMnemonics) {mode : Mode} {f : Form} {s t : State}
    {v : Byte} (h : operand f s = .ok (t, v)) (hr : busReady t = true) : routineOf (entry m mode 0) f s =
      .ok (plain (t.storeZN (targetOf t t.addrAbs) (steppedByte m v))) := by
  simp only [stepMemoryMnemonics, List.mem_cons, List.not_mem_nil, or_false] at hm
  rcases hm with rfl | rfl <;> simp only [routineOf, entry, opInc, opDec, h, add_one_eq_ofNat, sub_one_eq_ofNat, bind,
    Except.bind, memWrite_ready hr] <;> rfl

/-- The fetch tick of INC or DEC: its operand and address, and the state that it leaves (40_execution R140). -/
theorem stepMemory_exec {m : Mnemonic} (hm : m ∈ stepMemoryMnemonics) {f : Form} {i : Instr}
    (ha : assemble m f = some i) {s : State} (hr : busReady s = true) :
    ∃ v a c, operandOf i s = .ok v ∧ addressOf i s = .ok (a, c) ∧
      exec i s = .next (finish (baseCyclesOf i) c
        (plain ((operandFetched i f s a v).storeZN (targetOf (operandFetched i f s a v) a) (steppedByte m v)))) := by
  obtain ⟨a, c, haddr, hoperand, hfetch, hexec⟩ := exec_of_assemble_ready ha hr
  exact ⟨_, a, c, hoperand, haddr, hexec _ (stepMemory_routine hm hfetch hr)⟩

/-- Settles O23: the tick stores the stepped byte at the address that it read, and Z and N follow it. -/
theorem memoryIncrementAndDecrement : Obligations.MemoryIncrementAndDecrement := by
  unfold Obligations.MemoryIncrementAndDecrement
  intro m f i s hm ha hr hinv
  obtain ⟨v, a, c, hoperand, haddr, hnext⟩ := stepMemory_exec hm ha hr
  have hform := formOf_of_assemble ha
  have hsame : sameStores s (operandFetched i f s a v) := ⟨rfl, rfl, rfl⟩
  obtain ⟨hstored, hframe⟩ := write_stores (a := a) (v := steppedByte m v) hr hinv.canonical hsame rfl
    (State.storeZN_sameStores ..)
  obtain ⟨hZ, hN, hother⟩ := flags_of_setZN (p := s.p)
    ((operandFetched i f s a v).storeZN_p (targetOf (operandFetched i f s a v) a) (steppedByte m v))
  exact ⟨v, steppedByte m v, a, c, _, hoperand, rfl, haddr, (entry_of_assemble ha).1, hnext,
    ran_of_exec hform hnext (writeTarget_opcode ..) a (writeTarget_addrRel ..),
    ⟨writeTarget_a .., writeTarget_x .., writeTarget_y .., writeTarget_sp ..⟩, hZ, hN, hother,
    (writeTarget_pc ..).trans (pc_past_operands hform s), by simp, writeTarget_fetched .., writeTarget_addrAbs ..,
    hstored, hframe⟩

/-! ### INX, INY, DEX and DEY -/

/-- The mnemonics that change X or Y by one (42_arithmetic_logic R200, R201, R203, R204). -/
def stepRegisterMnemonics : List Mnemonic := [.INX, .INY, .DEX, .DEY]

/-- The byte that X or Y takes. -/
def steppedRegister (m : Mnemonic) (s : State) : Byte :=
  BitVec.ofNat 8 (if m = .INX then s.x.toNat + 1 else if m = .DEX then s.x.toNat + 255
    else if m = .INY then s.y.toNat + 1 else s.y.toNat + 255)

/-- The state after `m` has changed its register by one. -/
def State.stepRegister (s : State) (m : Mnemonic) : State :=
  { s.setZN (steppedRegister m s) with
    x := if m = .INX ∨ m = .DEX then steppedRegister m s else s.x
    y := if m = .INY ∨ m = .DEY then steppedRegister m s else s.y }

theorem stepRegister_routine {m : Mnemonic} (hm : m ∈ stepRegisterMnemonics) {mode : Mode} (f : Form) (s : State) :
    routineOf (entry m mode 0) f s = .ok (plain (s.stepRegister m)) := by
  simp only [stepRegisterMnemonics, List.mem_cons, List.not_mem_nil, or_false] at hm
  rcases hm with rfl | rfl | rfl | rfl <;>
    simp only [routineOf, entry, opInx, opIny, opDex, opDey, add_one_eq_ofNat, sub_one_eq_ofNat] <;> rfl

/-- Each takes two cycles (30_encoding R114). -/
theorem stepRegister_baseCycles {m : Mnemonic} (hm : m ∈ stepRegisterMnemonics) {i : Instr}
    (h : assemble m .imp = some i) : baseCyclesOf i = 2 := by
  simp only [stepRegisterMnemonics, List.mem_cons, List.not_mem_nil, or_false] at hm
  rcases hm with rfl | rfl | rfl | rfl <;> cases h <;> rfl

/-- Settles O24: the register takes the stepped byte, in mode IMP, which needs no bus. -/
theorem registerIncrementAndDecrement : Obligations.RegisterIncrementAndDecrement := by
  unfold Obligations.RegisterIncrementAndDecrement
  intro m i s hm ha
  have hnext := exec_of_assemble_imp (s := s) ha (stepRegister_routine hm _ _)
  obtain ⟨hZ, hN, hother⟩ := flags_of_setZN (p := s.p) (v := steppedRegister m s) rfl
  exact ⟨steppedRegister m s, _, rfl, (entry_of_assemble ha).1, hnext,
    ran_of_exec (formOf_of_assemble ha) hnext rfl s.addrAbs rfl, ⟨rfl, rfl, rfl, rfl⟩, hZ, hN, hother, rfl,
    stepRegister_baseCycles hm ha, rfl, rfl, rfl, rfl, rfl⟩

end Sys2Proof.Machine
end

section
/-! PROOFS. Shifts and rotates (43_shift_rotate R220 to R223): the four opcode routines in exact arithmetic, said once as
the flags set from a result and a carry and then the write-back, which goes to A or to memory. -/

namespace Sys2Proof.Machine

/-! ### The shifted byte as a number -/

/-- A shift left with `c` coming in at bit 0 (R222). -/
theorem shiftLeft_or_ofBool (v : Byte) (c : Bool) :
    (v <<< 1) ||| (BitVec.ofBool c).setWidth 8 = BitVec.ofNat 8 ((2 * v.toNat + c.toNat) % 256) := by
  have hdisjoint : (v <<< 1) &&& (BitVec.ofBool c).setWidth 8 = 0#8 := by
    ext k hk
    cases k <;> simp
  rw [← BitVec.add_eq_or_of_and_eq_zero _ _ hdisjoint]
  apply BitVec.eq_of_toNat_eq
  cases c <;> simp [Nat.shiftLeft_eq] <;> omega

/-- A shift right with `c` coming in at bit 7 (R223). -/
theorem ofBool_or_shiftRight (v : Byte) (c : Bool) :
    ((BitVec.ofBool c).setWidth 8 <<< 7) ||| (v >>> 1) = BitVec.ofNat 8 (v.toNat / 2 + 128 * c.toNat) := by
  have hdisjoint : ((BitVec.ofBool c).setWidth 8 <<< 7) &&& (v >>> 1) = 0#8 := by
    ext k hk
    by_cases h7 : k < 7
    · simp [h7]
    · simp [show 8 ≤ 1 + k by omega]
  rw [← BitVec.add_eq_or_of_and_eq_zero _ _ hdisjoint]
  apply BitVec.eq_of_toNat_eq
  cases c <;> simp [Nat.shiftRight_eq_div_pow] <;> omega

/-- A shift left with 0 coming in (R220). -/
theorem shiftLeft_eq_ofNat (v : Byte) : v <<< 1 = BitVec.ofNat 8 (2 * v.toNat % 256) := by
  simpa using shiftLeft_or_ofBool v false

/-- A shift right with 0 coming in (R221). -/
theorem shiftRight_eq_ofNat (v : Byte) : v >>> 1 = BitVec.ofNat 8 (v.toNat / 2) := by
  simpa using ofBool_or_shiftRight v false

/-! ### The routines -/

/-- The mnemonics of the shifts and rotates (43_shift_rotate R220 to R223). -/
def shiftMnemonics : List Mnemonic := [.ASL, .LSR, .ROL, .ROR]

/-- The result of a shift is a byte. -/
theorem shiftResult_lt {m : Mnemonic} {v : Byte} {b c : Bool} {r : Nat}
    (h : shiftResult m v.toNat b.toNat = (r, c)) : r < 256 := by
  have hv := v.isLt
  have hb := b.toNat_le
  obtain rfl : (shiftResult m v.toNat b.toNat).1 = r := congrArg Prod.fst h
  unfold shiftResult
  split <;> dsimp only <;> omega

/-- P with carry `c`, and Z and N after the result `r` (43_shift_rotate). -/
def shiftFlags (p : Byte) (r : Nat) (c : Bool) : Byte :=
  setFlag (setFlag (setFlag p .C c) .Z (decide (r = 0))) .N (decide (128 ≤ r))

/-- The flags after a fetch tick whose routine sets C, and Z and N from the result `r` (40_execution R140). -/
theorem flags_of_shift {p q : Byte} {r : Nat} {c : Bool} (h : q = shiftFlags (setFlag p .U true) r c) :
    getFlag q .C = c ∧ getFlag q .Z = decide (r = 0) ∧ getFlag q .N = decide (128 ≤ r) ∧
      sameFlagsBut [.C, .Z, .N, .U] p q := by
  rw [h, shiftFlags]
  refine ⟨by simp, by simp, by simp, fun g hg => ?_⟩
  obtain ⟨hC, hZ, hN, hU⟩ : g ≠ .C ∧ g ≠ .Z ∧ g ≠ .N ∧ g ≠ .U := by simpa using hg
  simp [hC, hZ, hN, hU]

/-- The routine sets Z and N from the byte; `shiftFlags` says the same of its number. -/
theorem State.setFlag_setZN_eq (s : State) {r : Nat} (hr : r < 256) (c : Bool) :
    (s.setFlag .C c).setZN (BitVec.ofNat 8 r) = { s with p := shiftFlags s.p r c } := by
  have hbyte : (BitVec.ofNat 8 r).toNat = r := Nat.mod_eq_of_lt hr
  have hzero : (BitVec.ofNat 8 r == 0) = decide (r = 0) := by
    rw [beq_eq_decide, decide_eq_decide, ← BitVec.toNat_inj, hbyte]
    rfl
  rw [shiftFlags, ← hzero, ← congrArg (fun n => decide (128 ≤ n)) hbyte, ← bit7_eq_decide]
  rfl

/-- What the common body leaves, when its result is the byte `r` and its carry is `c`. -/
theorem shiftBy_eq {result : Byte → Bool → Byte} {carry : Byte → Bool} {f : Form} {s t : State} {v : Byte} {r : Nat}
    {c : Bool} (h : operand f s = .ok (t, v)) (hlt : r < 256) (hr : result v (t.flag .C) = BitVec.ofNat 8 r)
    (hc : carry v = c) : shiftBy result carry f s =
      (writeBack f (BitVec.ofNat 8 r) { t with p := shiftFlags t.p r c }).map plain := by
  rw [← State.setFlag_setZN_eq t hlt, ← hr, ← hc]
  simp only [shiftBy, h, bind, Except.bind]
  cases writeBack .. <;> rfl

/-- The four routines set the flags of `shiftResult` and write its byte back. -/
theorem shift_routine {m : Mnemonic} (hm : m ∈ shiftMnemonics) {mode : Mode} {f : Form} {s t : State} {v : Byte}
    {r : Nat} {c : Bool} (h : operand f s = .ok (t, v)) (hres : shiftResult m v.toNat (t.flag .C).toNat = (r, c)) :
    routineOf (entry m mode 0) f s =
      (writeBack f (BitVec.ofNat 8 r) { t with p := shiftFlags t.p r c }).map plain := by
  have hlt := shiftResult_lt hres
  simp only [shiftMnemonics, List.mem_cons, List.not_mem_nil, or_false] at hm
  rcases hm with rfl | rfl | rfl | rfl <;> obtain ⟨rfl, rfl⟩ := Prod.mk.inj hres <;>
    simp only [routineOf, entry, opAsl, opLsr, opRol, opRor]
  · exact shiftBy_eq h hlt (shiftLeft_eq_ofNat v) (bit7_eq_decide v)
  · exact shiftBy_eq h hlt (shiftRight_eq_ofNat v) (Nat.testBit_zero _)
  · exact shiftBy_eq h hlt (shiftLeft_or_ofBool v _) (bit7_eq_decide v)
  · exact shiftBy_eq h hlt (ofBool_or_shiftRight v _) (Nat.testBit_zero _)

/-- The carry that a shift reads is the one before the fetch tick, which has set U alone (40_execution R140). -/
theorem carry_afterOpcode (op : Byte) (s : State) : (afterOpcode op s).flag .C = s.flag .C := by
  simp [State.flag]

/-! ### The accumulator -/

/-- Each takes two cycles in the accumulator form (30_encoding R114). -/
theorem shift_baseCycles {m : Mnemonic} (hm : m ∈ shiftMnemonics) {i : Instr}
    (h : assemble m .imp = some i) : baseCyclesOf i = 2 := by
  simp only [shiftMnemonics, List.mem_cons, List.not_mem_nil, or_false] at hm
  rcases hm with rfl | rfl | rfl | rfl <;> cases h <;> rfl

/-- Settles O25: the operand is A, and A takes the result, in mode IMP, which needs no bus. -/
theorem accumulatorShifts : Obligations.AccumulatorShifts := by
  unfold Obligations.AccumulatorShifts
  intro m i s r c hm ha hres
  rw [← carry_afterOpcode (opcodeOf i) s] at hres
  have hnext := exec_of_assemble_imp ha
    (shift_routine (t := { afterOpcode (opcodeOf i) s with fetched := s.a }) hm rfl hres)
  obtain ⟨hC, hZ, hN, hother⟩ := flags_of_shift (p := s.p) (r := r) (c := c) rfl
  exact ⟨_, (entry_of_assemble ha).1, hnext, ran_of_exec (formOf_of_assemble ha) hnext rfl s.addrAbs rfl,
    ⟨rfl, rfl, rfl, rfl⟩, hC, hZ, hN, hother, rfl, shift_baseCycles hm ha, rfl, rfl, rfl, rfl, rfl⟩

/-! ### Memory -/

/-- The write-back of a memory form goes to the address that the operand was read from. -/
theorem shiftMemory_routine {m : Mnemonic} (hm : m ∈ shiftMnemonics) {mode : Mode} {f : Form} (himp : f ≠ .imp)
    {s t : State} {v : Byte} {r : Nat} {c : Bool} (h : operand f s = .ok (t, v)) (hr : busReady t = true)
    (hres : shiftResult m v.toNat (t.flag .C).toNat = (r, c)) : routineOf (entry m mode 0) f s =
      .ok (plain (writeTarget { t with p := shiftFlags t.p r c } (targetOf t t.addrAbs) (BitVec.ofNat 8 r))) := by
  rw [shift_routine hm h hres, writeBack_ready (s := { t with p := shiftFlags t.p r c }) himp hr]
  rfl

/-- The fetch tick of a shift of memory: its operand and address, and the state that it leaves (40_execution R140). -/
theorem shiftMemory_exec {m : Mnemonic} (hm : m ∈ shiftMnemonics) {f : Form} (himp : f ≠ .imp) {i : Instr}
    (ha : assemble m f = some i) {s : State} (hr : busReady s = true) :
    ∃ v r c a cross, operandOf i s = .ok v ∧ shiftResult m v.toNat (s.flag .C).toNat = (r, c) ∧
      addressOf i s = .ok (a, cross) ∧ exec i s = .next (finish (baseCyclesOf i) cross (plain
        (writeTarget { operandFetched i f s a v with p := shiftFlags (setFlag s.p .U true) r c }
          (targetOf (operandFetched i f s a v) a) (BitVec.ofNat 8 r)))) := by
  obtain ⟨a, cross, haddr, hoperand, hfetch, hexec⟩ := exec_of_assemble_ready ha hr
  generalize operandAt f s a = v at hoperand hfetch
  have hcarry : (operandFetched i f s a v).flag .C = s.flag .C := carry_afterOpcode (opcodeOf i) s
  obtain ⟨⟨r, c⟩, hres⟩ : ∃ o, shiftResult m v.toNat (s.flag .C).toNat = o := ⟨_, rfl⟩
  exact ⟨v, r, c, a, cross, hoperand, hres, haddr, hexec _
    (shiftMemory_routine (t := operandFetched i f s a v) hm himp hfetch hr (hcarry ▸ hres))⟩

/-- Settles O26: the tick stores the result at the address that it read, and C, Z and N follow it. -/
theorem memoryShifts : Obligations.MemoryShifts := by
  unfold Obligations.MemoryShifts
  intro m f i s hm himp ha hr hinv
  obtain ⟨v, r, c, a, cross, hoperand, hres, haddr, hnext⟩ := shiftMemory_exec hm himp ha hr
  have hform := formOf_of_assemble ha
  -- With P a variable, no comparison of states unfolds its flags.
  generalize hq : shiftFlags (setFlag s.p .U true) r c = q at hnext
  have hsame : sameStores s { operandFetched i f s a v with p := q } := ⟨rfl, rfl, rfl⟩
  obtain ⟨hstored, hframe⟩ := write_stores (a := a) (v := BitVec.ofNat 8 r) hr hinv.canonical hsame rfl
    (t := finish (baseCyclesOf i) cross (plain (writeTarget _ (targetOf (operandFetched i f s a v) a) _)))
    ⟨rfl, rfl, rfl⟩
  obtain ⟨hC, hZ, hN, hother⟩ := flags_of_shift ((writeTarget_p { operandFetched i f s a v with p := q }
    (targetOf (operandFetched i f s a v) a) (BitVec.ofNat 8 r)).trans hq.symm)
  exact ⟨v, r, c, a, cross, _, hoperand, hres, haddr, (entry_of_assemble ha).1, hnext,
    ran_of_exec hform hnext (writeTarget_opcode ..) a (writeTarget_addrRel ..),
    ⟨writeTarget_a .., writeTarget_x .., writeTarget_y .., writeTarget_sp ..⟩, hC, hZ, hN, hother,
    (writeTarget_pc ..).trans (pc_past_operands hform s), by simp, writeTarget_fetched .., writeTarget_addrAbs ..,
    hstored, hframe⟩

end Sys2Proof.Machine
end

section
/-! PROOFS. Control flow (44_control_flow R230 to R241): the common branch body said once for the eight branches, and
the fetch tick around it, around JMP, and around the word that JSR pushes and RTS pulls. -/

namespace Sys2Proof.Machine

/-! ### The branches -/

/-- Only a branch has an opcode in mode REL, with two cycles before what a taken branch adds (30_encoding R114). -/
theorem branch_of_rel {m : Mnemonic} {op : Byte} (h : opcodeAt m .REL = some op) :
    m ∈ branchMnemonics ∧ (descriptor op).baseCycles = 2 := by
  cases m <;> cases h <;> decide

/-- Each runs the common body on its own condition (R231 to R238). -/
theorem branch_routine {m : Mnemonic} (hm : m ∈ branchMnemonics) {mode : Mode} (f : Form) (s : State) :
    routineOf (entry m mode 0) f s = branch (branchCondition m s) s := by
  simp only [branchMnemonics, List.mem_cons, List.not_mem_nil, or_false] at hm
  rcases hm with rfl | rfl | rfl | rfl | rfl | rfl | rfl | rfl <;> rfl

/-- A condition reads C, Z, N or V, so the Unused bit that the fetch tick sets makes no difference (40_execution
R140). -/
theorem branchCondition_setUnused {s t : State} (h : t.p = setFlag s.p .U true) (m : Mnemonic) :
    branchCondition m t = branchCondition m s := by
  have hflag {g : Flag} (hg : g ≠ .U) : t.flag g = s.flag g := by simp [State.flag, h, hg]
  cases m <;> simp [branchCondition, hflag]

/-- What the common body leaves (R230): a taken branch moves PC and the effective address to the target. -/
def branched (c : Bool) (target : Word) (s : State) : Effect where
  state := { s with
    addrAbs := if c then target else s.addrAbs
    pc := if c then target else s.pc }
  opcodeExtra := false
  branchExtra := if c then (if target.toNat / 256 = s.pc.toNat / 256 then 1 else 2) else 0

theorem branch_eq (c : Bool) (s : State) : branch c s = .ok (branched c (s.pc + s.addrRel) s) := by
  cases c
  · rfl
  · simp [branch, branched, page_bne]

/-- The base of two cycles and what the body adds to it (R230). -/
theorem finish_branched_cycles (x c : Bool) (target : Word) (s : State) :
    (finish 2 x (branched c target s)).cycles =
      if c then (if target.toNat / 256 = s.pc.toNat / 256 then 3 else 4) else 2 := by
  cases c
  · simp [branched]
  · simp only [finish_cycles, branched, Bool.and_false, if_true]
    split <;> rfl

/-- The address after a branch plus its signed offset, as a number (R230). -/
theorem add_signExtend (w : Word) (rr : Byte) :
    w + 2 + signExtend rr = BitVec.ofInt 16 (w.toNat + 2 + rr.toInt) := by
  rw [BitVec.ofInt_add, BitVec.ofInt_add, BitVec.ofInt_natCast, BitVec.ofNat_toNat, BitVec.setWidth_eq]
  rfl

/-- The fetch tick of a branch: the common body at the address after its offset byte. -/
theorem branch_exec {m : Mnemonic} {rr : Byte} {i : Instr} (ha : assemble m (.rel rr) = some i) (s : State) :
    exec i s = .next (finish 2 false (branched (branchCondition m s)
      (BitVec.ofInt 16 (s.pc.toNat + 2 + rr.toInt)) (resolved (.rel rr) (afterOpcode (opcodeOf i) s) s.addrAbs))) := by
  obtain ⟨hm, hbase⟩ := branch_of_rel (entry_of_assemble ha).1
  have hpc : (resolved (.rel rr) (afterOpcode (opcodeOf i) s) s.addrAbs).pc = s.pc + 2 := BitVec.add_assoc ..
  rw [exec_of_assemble ha, baseCyclesOf_of_opcode rfl hbase]
  refine run_eq (a := s.addrAbs) rfl ?_
  rw [branch_routine hm, branchCondition_setUnused (s := s) rfl, branch_eq, hpc]
  exact congrArg (fun w => Except.ok (branched _ w _)) (add_signExtend s.pc rr)

/-- Settles O27: mode REL needs no bus, and the common body runs on the condition before the fetch tick. -/
theorem branchesGoOnTheirCondition : Obligations.BranchesGoOnTheirCondition := by
  unfold Obligations.BranchesGoOnTheirCondition
  rintro m rr i s target ha rfl
  have hnext := branch_exec ha s
  have hpc : s.pc + 1 + 1 = s.pc + 2 := BitVec.add_assoc ..
  refine ⟨_, (entry_of_assemble ha).1, hnext, ran_of_exec (formOf_of_assemble ha) hnext rfl s.addrAbs rfl,
    ⟨rfl, rfl, rfl, rfl⟩, sameFlagsBut_setUnused s.p, ?_, ?_, rfl, rfl, ⟨rfl, rfl, rfl⟩⟩
  · rw [← hpc]
    rfl
  · rw [finish_branched_cycles, ← hpc]
    rfl

/-! ### JMP -/

/-- JMP's modes are ABS and IND (30_encoding R114), neither of which crosses a page (40_execution R149, R152). -/
theorem jump_no_cross {f : Form} {i : Instr} (ha : assemble .JMP f = some i) {s : State} {a : Word} {c : Bool}
    (h : effectiveAddress f s = .ok (a, c)) : c = false := by
  have hop := (entry_of_assemble ha).1
  by_contra hc
  obtain rfl := Bool.eq_true_of_not_eq_false hc
  have hmode := mode_of_cross h
  simp only [List.mem_cons, List.not_mem_nil, or_false] at hmode
  rcases hmode with hm | hm | hm <;> rw [hm] at hop <;> cases hop

/-- Settles O28: the routine copies the effective address into PC. -/
theorem jumpTakesTheAddress : Obligations.JumpTakesTheAddress := by
  unfold Obligations.JumpTakesTheAddress
  intro f i s ha hr
  obtain ⟨a, c, haddr, -, -, hexec⟩ := exec_of_assemble_ready ha hr
  have hform := formOf_of_assemble ha
  obtain rfl : c = false := jump_no_cross ha (by rwa [addressOf, hform] at haddr)
  have hnext := hexec _ rfl
  exact ⟨a, _, haddr, (entry_of_assemble ha).1, hnext, ran_of_exec hform hnext rfl a rfl, ⟨rfl, rfl, rfl, rfl⟩,
    sameFlagsBut_setUnused s.p, rfl, by simp, if_neg (form_ne_imp rfl ha), rfl, ⟨rfl, rfl, rfl⟩⟩

/-! ### JSR and RTS -/

/-- A stack address reads the RAM byte that its stack pointer names (20_memory R79). -/
theorem busRead_stackAddr {s : State} (h : busReady s = true) {sp : Byte} {ro : Bool} :
    busRead s (stackAddr sp) ro = .ok (s.ram.read (256 + sp.toNat)) := by
  rw [busRead_ready h, targetOf_stackAddr]
  rfl

/-- The state after JSR's routine: the address of its third byte is pushed, and PC takes the operand (R240). -/
def State.called (s : State) : State :=
  { s with ram := ramPush2 s.ram s.sp (hiByte (s.pc - 1)) (loByte (s.pc - 1)), sp := s.sp - 2, pc := s.addrAbs }

theorem jsr_routine {s : State} (h : busReady s = true) (mode : Mode) (f : Form) :
    routineOf (entry .JSR mode 0) f s = .ok (plain s.called) := by
  simp only [routineOf, entry, opJsr, pushWord_eq h]
  rfl

/-- The stack after JSR's routine: the two bytes of the pushed address, and no other byte changed. -/
theorem State.called_stack {s : State} (h : busReady s = true) (hw : s.ram.wf = true) :
    busRead s.called (stackAddr s.sp) true = .ok (hiByte (s.pc - 1)) ∧
      busRead s.called (stackAddr (s.sp - 1)) true = .ok (loByte (s.pc - 1)) ∧
      memoryFrame s s.called [stackAddr s.sp, stackAddr (s.sp - 1)] := by
  have hcalled : busReady s.called = true := h
  have hram : s.called.ram = ramPush2 s.ram s.sp (hiByte (s.pc - 1)) (loByte (s.pc - 1)) := rfl
  rw [busRead_stackAddr hcalled, busRead_stackAddr hcalled, hram, ramPush2_first hw, ramPush2_second hw]
  exact ⟨rfl, rfl, (memoryFrame_push2 h _ _).congr ⟨rfl, rfl, rfl⟩ ⟨rfl, rfl, rfl⟩⟩

/-- The fetch tick of JSR: its routine, with the operand in `addrAbs` and PC past it. -/
theorem jsr_exec {s : State} (h : busReady s = true) (w : Word) : exec (.jsrAbs w) s =
    .next (finish 6 false (plain (resolved (.abs w) (afterOpcode 0x20 s) w).called)) := by
  rw [exec_of_assemble (m := .JSR) (f := .abs w) rfl, baseCyclesOf_of_opcode (op := 0x20) rfl rfl]
  exact run_eq rfl (jsr_routine (s := resolved (.abs w) (afterOpcode 0x20 s) w) h ..)

/-- Settles O29: PC past JSR's operand, less one, is the address of its third byte. -/
theorem callPushesTheReturnAddress : Obligations.CallPushesTheReturnAddress := by
  unfold Obligations.CallPushesTheReturnAddress
  intro w s hr hinv
  have hnext := jsr_exec hr w
  have hret : (resolved (.abs w) (afterOpcode 0x20 s) w).pc - 1 = s.pc + 2 := by
    show s.pc + 1 + 2 - 1 = s.pc + 2
    rw [add_right_comm, add_sub_cancel_right]
  obtain ⟨hhi, hlo, hframe⟩ := State.called_stack (s := resolved (.abs w) (afterOpcode 0x20 s) w) hr
    hinv.ramCanonical
  rw [hret] at hhi hlo
  exact ⟨_, hnext, ran_of_exec rfl hnext rfl w rfl, rfl, ⟨rfl, rfl, rfl, rfl⟩, sameFlagsBut_setUnused s.p, rfl,
    rfl, rfl, rfl, hhi, hlo, hframe.congr ⟨rfl, rfl, rfl⟩ ⟨rfl, rfl, rfl⟩⟩

/-- What RTS does when the bus answers: the word above the stack pointer, and one added (R241). -/
theorem rts_routine {s : State} (h : busReady s = true) (mode : Mode) (f : Form) :
    routineOf (entry .RTS mode 0) f s = .ok (plain { s with
      sp := s.sp + 2
      pc := wordOf (s.ram.read (256 + (s.sp + 2).toNat)) (s.ram.read (256 + (s.sp + 1).toNat)) + 1 }) := by
  simp only [routineOf, entry, opRts, pullWord_eq h]
  rfl

/-- The pulled address plus one, as a number (R241). -/
theorem wordOf_add_one (hi lo : Byte) : wordOf hi lo + 1 = BitVec.ofNat 16 (hi.toNat * 256 + lo.toNat + 1) := by
  rw [wordOf_eq, BitVec.ofNat_add (x := hi.toNat * 256 + lo.toNat)]
  rfl

/-- Settles O30: RTS pulls the word that the two bytes above the stack pointer are, and stores nothing. -/
theorem returnPullsTheAddress : Obligations.ReturnPullsTheAddress := by
  unfold Obligations.ReturnPullsTheAddress
  intro s hr
  have hnext := exec_of_assemble_imp (m := .RTS) (i := .rtsImp) (s := s) rfl
    (rts_routine (s := { afterOpcode 0x60 s with fetched := s.a }) hr _ _)
  exact ⟨_, _, _, busRead_stackAddr hr, busRead_stackAddr hr, hnext,
    ran_of_exec rfl hnext rfl s.addrAbs rfl, rfl, ⟨rfl, rfl, rfl, rfl⟩, sameFlagsBut_setUnused s.p,
    wordOf_add_one _ _, rfl, rfl, rfl, ⟨rfl, rfl, rfl⟩⟩

end Sys2Proof.Machine
end

section
/-! PROOFS. Stack, flag and system instructions (45_stack_flags_system R250 to R263): the fetch tick in mode IMP, the
status byte as flags and as a number, and around them the pushes, the pulls, the flag instructions, NOP, and the entry
and the return of BRK and RTI. -/

namespace Sys2Proof.Machine

/-! ### The fetch tick in mode IMP -/

/-- The base cycle count of a mnemonic in mode IMP, by the opcode that its rule gives it (30_encoding R114). -/
def impliedCycles (m : Mnemonic) : Option Nat :=
  (opcodeAt m .IMP).map fun op => (descriptor op).baseCycles

/-- The state after the addressing routine of `i` in mode IMP: A is in `fetched` (40_execution R140, R143). -/
def impliedState (i : Instr) (s : State) : State := { afterOpcode (opcodeOf i) s with fetched := s.a }

/-- The fetch tick of a mode IMP instruction costs the base cycle count alone (40_execution R140, R141). -/
theorem exec_implied {m : Mnemonic} {i : Instr} {n : Nat} {s : State} {e : Effect} (ha : assemble m .imp = some i)
    (hn : impliedCycles m = some n)
    (he : routineOf (entry m .IMP 0) .imp (impliedState i s) = .ok e) :
    exec i s = .next (finish n false e) := by
  have hop : opcodeAt m .IMP = some (opcodeOf i) := (entry_of_assemble ha).1
  rw [impliedCycles, hop, Option.map_some] at hn
  rw [exec_of_assemble_imp ha he, baseCyclesOf_of_opcode rfl (Option.some.inj hn)]

/-! ### The status byte -/

/-- Setting one of the flags of a list changes no flag outside it. -/
theorem sameFlagsBut.setFlag {fs : List Flag} {p q : Byte} {f : Flag} (h : sameFlagsBut fs p q) (hf : f ∈ fs)
    (v : Bool) : sameFlagsBut fs p (Machine.setFlag q f v) := by
  intro g hg
  have hgf : g ≠ f := fun hc => hg (hc ▸ hf)
  rw [getFlag_setFlag, if_neg hgf]
  exact h g hg

/-- The fetch tick's own write of P, seen by an instruction whose changed flags include U (40_execution R140). -/
theorem sameFlagsBut_setUnused_of_mem {fs : List Flag} (hU : .U ∈ fs) (p : Byte) :
    sameFlagsBut fs p (setFlag p .U true) :=
  sameFlagsBut.setFlag (fun _ _ => rfl) hU true

/-- PHP and BRK push P with bits 4 and 5 set (R251, R261). -/
theorem pushedStatus_of_break (p : Byte) : pushedStatus (setFlag p .U true) true = p ||| 0x30 := by
  rw [pushedStatus, setFlag_setFlag_same]
  exact BitVec.or_assoc ..

/-! ### PHA and PHP -/

/-- The mnemonics of the pushes (R250, R251). -/
def pushMnemonics : List Mnemonic := [.PHA, .PHP]

/-- The byte that push `m` pushes. -/
def pushedByte (m : Mnemonic) (s : State) : Byte := if m = .PHA then s.a else pushedStatus s.p true

/-- The live status that push `m` leaves: PHP clears B and sets U. -/
def statusAfterPush (m : Mnemonic) (p : Byte) : Byte :=
  if m = .PHP then setFlag (setFlag p .B false) .U true else p

/-- The state after the routine of push `m`. -/
def State.pushed (s : State) (m : Mnemonic) : State :=
  { s with
    ram := s.ram.write (256 + s.sp.toNat) (pushedByte m s)
    sp := s.sp - 1
    p := statusAfterPush m s.p }

theorem push_routine {m : Mnemonic} (hm : m ∈ pushMnemonics) {s : State} (h : busReady s = true) (mode : Mode)
    (f : Form) : routineOf (entry m mode 0) f s = .ok (plain (s.pushed m)) := by
  simp only [pushMnemonics, List.mem_cons, List.not_mem_nil, or_false] at hm
  rcases hm with rfl | rfl <;> simp only [routineOf, entry, opPha, opPhp, push_eq h] <;> rfl

theorem push_impliedCycles : ∀ m ∈ pushMnemonics, impliedCycles m = some 3 := by decide

/-- The flags after the fetch tick of a push. -/
theorem statusAfterPush_flags (m : Mnemonic) (p : Byte) :
    getFlag (statusAfterPush m (setFlag p .U true)) .B = (if m = .PHP then false else getFlag p .B) ∧
      sameFlagsBut [.B, .U] p (statusAfterPush m (setFlag p .U true)) := by
  have hU : sameFlagsBut [.B, .U] p (setFlag p .U true) := sameFlagsBut_setUnused_of_mem (by decide) p
  unfold statusAfterPush
  split
  · exact ⟨by simp, (hU.setFlag (by decide) false).setFlag (by decide) true⟩
  · exact ⟨by simp, hU⟩

/-- The stack after the routine of a push: the byte at the old stack pointer, and no other byte changed. -/
theorem State.pushed_stack {s : State} (h : busReady s = true) (hw : s.ram.wf = true) (m : Mnemonic) :
    busRead (s.pushed m) (stackAddr s.sp) true = .ok (pushedByte m s) ∧
      memoryFrame s (s.pushed m) [stackAddr s.sp] := by
  refine ⟨?_, (memoryFrame_stackWrite h s.sp _).congr ⟨rfl, rfl, rfl⟩ ⟨rfl, rfl, rfl⟩⟩
  rw [busRead_stackAddr (by exact h)]
  exact congrArg Except.ok (Memory.read_write_same hw ..)

/-- Settles O31: each pushes its byte, and PHP's has U set by the fetch tick and B by the push. -/
theorem pushesStoreOneByte : Obligations.PushesStoreOneByte := by
  unfold Obligations.PushesStoreOneByte
  intro m i s hm ha hr hinv
  have hnext := exec_implied ha (push_impliedCycles m hm) (push_routine hm (s := impliedState i s) hr ..)
  obtain ⟨hB, hother⟩ := statusAfterPush_flags m s.p
  obtain ⟨hread, hframe⟩ := State.pushed_stack (s := impliedState i s) hr hinv.ramCanonical m
  have hbyte : pushedByte m (impliedState i s) = if m = .PHA then s.a else s.p ||| 0x30 := by
    rw [← pushedStatus_of_break]
    rfl
  exact ⟨_, (entry_of_assemble ha).1, hnext, ran_of_exec (formOf_of_assemble ha) hnext rfl s.addrAbs rfl,
    ⟨rfl, rfl, rfl, rfl⟩, hB, hother, rfl, rfl, rfl, rfl, hread.trans (congrArg Except.ok hbyte),
    hframe.congr ⟨rfl, rfl, rfl⟩ ⟨rfl, rfl, rfl⟩⟩

/-! ### PLA and PLP -/

/-- The mnemonics of the pulls (R252, R253). -/
def pullMnemonics : List Mnemonic := [.PLA, .PLP]

/-- The state after the routine of pull `m` has pulled byte `v`. -/
def State.pulled (s : State) (m : Mnemonic) (v : Byte) : State :=
  { s with
    sp := s.sp + 1
    a := if m = .PLA then v else s.a
    p := if m = .PLA then (s.setZN v).p else Machine.setFlag v .U true }

theorem pull_routine {m : Mnemonic} (hm : m ∈ pullMnemonics) {s : State} (h : busReady s = true) (mode : Mode)
    (f : Form) : routineOf (entry m mode 0) f s = .ok (plain (s.pulled m (s.ram.read (256 + (s.sp + 1).toNat)))) := by
  simp only [pullMnemonics, List.mem_cons, List.not_mem_nil, or_false] at hm
  rcases hm with rfl | rfl <;> simp only [routineOf, entry, opPla, opPlp, pull_eq h] <;> rfl

theorem pull_impliedCycles : ∀ m ∈ pullMnemonics, impliedCycles m = some 4 := by decide

/-- Settles O32: the byte above the stack pointer goes to A, and Z and N follow it, or to P with U set. -/
theorem pullsLoadOneByte : Obligations.PullsLoadOneByte := by
  unfold Obligations.PullsLoadOneByte
  intro m i s hm ha hr
  have hnext := exec_implied ha (pull_impliedCycles m hm) (pull_routine hm (s := impliedState i s) hr ..)
  refine ⟨_, _, busRead_stackAddr hr, (entry_of_assemble ha).1, hnext,
    ran_of_exec (formOf_of_assemble ha) hnext rfl s.addrAbs rfl, ⟨rfl, rfl, rfl, rfl⟩, ?_, ?_, rfl, rfl, rfl, rfl,
    rfl, rfl, rfl⟩
  · rintro rfl
    exact flags_of_setZN rfl
  · rintro rfl
    rfl

/-! ### The flag instructions and NOP -/

/-- The routine of a flag instruction writes its one flag (R254 to R260). -/
theorem flag_routine {m : Mnemonic} {fl : Flag} {v : Bool} (h : flagWritten m = some (fl, v)) (mode : Mode)
    (f : Form) (s : State) : routineOf (entry m mode 0) f s = .ok (plain (s.setFlag fl v)) := by
  cases m
  case CLC | CLD | CLI | CLV | SEC | SED | SEI => cases h; rfl
  all_goals cases h

theorem flag_impliedCycles {m : Mnemonic} {fl : Flag} {v : Bool} (h : flagWritten m = some (fl, v)) :
    impliedCycles m = some 2 := by
  cases m
  case CLC | CLD | CLI | CLV | SEC | SED | SEI => rfl
  all_goals cases h

/-- Settles O33: the one write of P beside the fetch tick's own, in mode IMP, which needs no bus. -/
theorem flagInstructionsWriteOneFlag : Obligations.FlagInstructionsWriteOneFlag := by
  unfold Obligations.FlagInstructionsWriteOneFlag
  intro m i s fl v hw ha
  have hnext := exec_implied ha (flag_impliedCycles hw) (flag_routine hw _ _ (impliedState i s))
  have hflag : getFlag (setFlag (setFlag s.p .U true) fl v) fl = v := by simp
  have hother : sameFlagsBut [fl, .U] s.p (setFlag (setFlag s.p .U true) fl v) :=
    (sameFlagsBut_setUnused_of_mem (by simp) s.p).setFlag (by simp) v
  exact ⟨_, (entry_of_assemble ha).1, hnext, ran_of_exec (formOf_of_assemble ha) hnext rfl s.addrAbs rfl,
    ⟨rfl, rfl, rfl, rfl⟩, hflag, hother, rfl, rfl, rfl, rfl, rfl, rfl, rfl⟩

/-- Settles O34: NOP's routine leaves the state that the addressing routine left. -/
theorem nopOnlyAdvances : Obligations.NopOnlyAdvances := by
  unfold Obligations.NopOnlyAdvances
  intro s
  have hnext := exec_implied (m := .NOP) (i := .nopImp) (n := 2) (s := s) rfl rfl rfl
  exact ⟨_, hnext, ran_of_exec rfl hnext rfl s.addrAbs rfl, rfl, ⟨rfl, rfl, rfl, rfl⟩, sameFlagsBut_setUnused s.p,
    rfl, rfl, rfl, rfl, rfl, rfl, rfl⟩

/-! ### The entry of an exception and the return from one -/

/-- The state after an exception was taken: the return address and the status lie on the stack, and the handler runs
with interrupts disabled (R261, 60_exceptions R281, R282). -/
def State.entered (s : State) (brk : Bool) (ret vector : Word) : State :=
  { s with
    ram := ramPush3 s.ram s.sp (hiByte ret) (loByte ret) (pushedStatus s.p brk)
    sp := s.sp - 3
    p := Machine.setFlag (Machine.setFlag (Machine.setFlag s.p .B false) .U true) .I true
    pc := wordOf (readTarget s (targetOf s (vector + 1))) (readTarget s (targetOf s vector)) }

theorem takeException_entered {s : State} (h : busReady s = true) (brk : Bool) (ret : Word) {vector : Word}
    (hv : 0x2000 ≤ vector.toNat) (hv' : 0x2000 ≤ (vector + 1).toNat) :
    takeException s brk ret vector = .ok (s.entered brk ret vector) :=
  takeException_eq h brk ret vector hv hv'

/-- The stack after an entry: the return address, high byte first, then the status, and no other byte changed. -/
theorem State.entered_stack {s : State} (h : busReady s = true) (hw : s.ram.wf = true) (brk : Bool)
    (ret vector : Word) :
    busRead (s.entered brk ret vector) (stackAddr s.sp) true = .ok (hiByte ret) ∧
      busRead (s.entered brk ret vector) (stackAddr (s.sp - 1)) true = .ok (loByte ret) ∧
      busRead (s.entered brk ret vector) (stackAddr (s.sp - 2)) true = .ok (pushedStatus s.p brk) ∧
      memoryFrame s (s.entered brk ret vector) [stackAddr s.sp, stackAddr (s.sp - 1), stackAddr (s.sp - 2)] := by
  have hentered : busReady (s.entered brk ret vector) = true := h
  have hram : (s.entered brk ret vector).ram =
    ramPush3 s.ram s.sp (hiByte ret) (loByte ret) (pushedStatus s.p brk) := rfl
  rw [busRead_stackAddr hentered, busRead_stackAddr hentered, busRead_stackAddr hentered, hram, ramPush3_first hw,
    ramPush3_second hw, ramPush3_third hw]
  exact ⟨rfl, rfl, rfl, (memoryFrame_push3 h ..).congr ⟨rfl, rfl, rfl⟩ ⟨rfl, rfl, rfl⟩⟩

/-- The live flags after an entry: B clear and I set, and the others but U as they were. -/
theorem State.entered_flags (s : State) (brk : Bool) (ret vector : Word) :
    (s.entered brk ret vector).flag .B = false ∧ (s.entered brk ret vector).flag .I = true ∧
      sameFlagsBut [.B, .I, .U] s.p (s.entered brk ret vector).p := by
  have hB : sameFlagsBut [.B, .I, .U] s.p (Machine.setFlag s.p .B false) :=
    sameFlagsBut.setFlag (fun _ _ => rfl) (by decide) false
  exact ⟨by simp [State.flag, State.entered], by simp [State.flag, State.entered],
    (hB.setFlag (by decide) true).setFlag (by decide) true⟩

/-- BRK's routine: PC already stands one past the BRK, so what it pushes is its own address plus the offset (R261). -/
theorem brk_routine {s : State} (h : busReady s = true) {pc : Word} (hpc : s.pc = pc + 1) (mode : Mode) (f : Form) :
    routineOf (entry .BRK mode 0) f s = .ok (plain (s.entered true (pc + s.cfg.brkReturnOffset) irqVector)) := by
  have hret : s.pc + s.cfg.brkReturnOffset - 1 = pc + s.cfg.brkReturnOffset := by
    rw [hpc, add_right_comm, add_sub_cancel_right]
  simp only [routineOf, entry, opBrk, takeException_entered h true _ (vector := irqVector) (by decide) (by decide),
    hret]
  rfl

/-- Settles O35: BRK's routine is the entry through the vector at 0xFFFE, whatever I holds. -/
theorem brkEntersTheHandler : Obligations.BrkEntersTheHandler := by
  unfold Obligations.BrkEntersTheHandler
  rintro s ret hr hinv rfl
  have hnext := exec_implied (m := .BRK) (n := 7) rfl rfl
    (brk_routine (s := impliedState .brkImp s) hr (pc := s.pc) rfl ..)
  obtain ⟨hhi, hlo, hstatus, hframe⟩ := State.entered_stack (s := impliedState .brkImp s) hr hinv.ramCanonical true
    (s.pc + s.cfg.brkReturnOffset) irqVector
  obtain ⟨hB, hI, hother⟩ := (impliedState .brkImp s).entered_flags true (s.pc + s.cfg.brkReturnOffset) irqVector
  have hU : sameFlagsBut [.B, .I, .U] s.p (setFlag s.p .U true) := sameFlagsBut_setUnused_of_mem (by decide) s.p
  exact ⟨_, _, _, busRead_ready hr .., busRead_ready hr .., hnext, ran_of_exec rfl hnext rfl s.addrAbs rfl, rfl,
    ⟨rfl, rfl, rfl, rfl⟩, hB, hI, fun g hg => (hother g hg).trans (hU g hg), wordOf_eq .., rfl, rfl, rfl, hhi,
    hlo, hstatus.trans (congrArg Except.ok (pushedStatus_of_break s.p)),
    hframe.congr ⟨rfl, rfl, rfl⟩ ⟨rfl, rfl, rfl⟩⟩

/-- The state after a return from an exception (R262). -/
def State.returned (s : State) : State :=
  { s with
    sp := s.sp + 3
    p := Machine.setFlag (Machine.setFlag (s.ram.read (256 + (s.sp + 1).toNat)) .B false) .U true
    pc := wordOf (s.ram.read (256 + (s.sp + 3).toNat)) (s.ram.read (256 + (s.sp + 2).toNat)) }

theorem rti_routine {s : State} (h : busReady s = true) (mode : Mode) (f : Form) :
    routineOf (entry .RTI mode 0) f s = .ok (plain s.returned) := by
  simp only [routineOf, entry, opRti, returnFromException_eq h]
  rfl

/-- Settles O36: RTI pulls the status and the word above it, and stores nothing. -/
theorem rtiRestoresStatusAndPc : Obligations.RtiRestoresStatusAndPc := by
  unfold Obligations.RtiRestoresStatusAndPc
  intro s hr
  have hnext := exec_implied (m := .RTI) (n := 6) rfl rfl
    (rti_routine (s := impliedState .rtiImp s) hr ..)
  exact ⟨_, _, _, _, busRead_stackAddr hr, busRead_stackAddr hr, busRead_stackAddr hr, hnext,
    ran_of_exec rfl hnext rfl s.addrAbs rfl, rfl, ⟨rfl, rfl, rfl, rfl⟩, rfl, wordOf_eq .., rfl, rfl, rfl, rfl, rfl,
    rfl⟩

end Sys2Proof.Machine
end

section
/-! PROOFS. The host's interrupts, the picture timing unit and the bus clock (60_exceptions R281, R282, R286, R289,
R291): the state that IRQ and NMI leave, said once through the shared entry; RTI as the inverse of that entry; the
picture unit by the number of ticks since the first dot of a frame; and three bus ticks around one CPU tick. -/

namespace Sys2Proof.Machine

/-! ### IRQ and NMI -/

/-- The state after the entry of a host interrupt through `vector`: nothing that was pending remains (R281, R282). -/
def State.interrupted (s : State) (vector : Word) (cycles : Nat) : State :=
  { s.entered false s.pc vector with addrAbs := vector, cycles := cycles }

theorem perform_irq_masked {s : State} (hI : s.flag .I = true) : perform .irq s = .next s := by
  simp only [perform, irq, hI, if_true, outcomeOf]

theorem perform_irq_accepted {s : State} (h : busReady s = true) (hI : s.flag .I = false) :
    perform .irq s = .next (s.interrupted irqVector 7) := by
  simp only [perform, irq, hI, Bool.false_eq_true, if_false,
    takeException_entered h false _ (vector := irqVector) (by decide) (by decide)]
  rfl

theorem perform_nmi {s : State} (h : busReady s = true) :
    perform .nmi s = .next (s.interrupted nmiVector 8) := by
  simp only [perform, nmi, takeException_entered h false _ (vector := nmiVector) (by decide) (by decide)]
  rfl

/-- IRQ and NMI push P with B clear and U set (10_state R30, R31). -/
theorem pushedStatus_of_interrupt (p : Byte) : pushedStatus p false = (p &&& 0xEF) ||| 0x20 := by
  show (p ||| 0x20) &&& 0xEF = _
  rw [BitVec.and_or_distrib_right]
  rfl

/-- The entry of a host interrupt sets U in the live status (R281, R282). -/
theorem State.entered_unused (s : State) (brk : Bool) (ret vector : Word) :
    (s.entered brk ret vector).flag .U = true := by
  simp [State.flag, State.entered]

/-- What `act` does in `s` when it enters the handler whose address lies at `vector` and `vector + 1`. -/
def InterruptEntry (act : HostAction) (s : State) (vector : Word) (cycles : Nat) : Prop :=
  ∃ lo hi t, busRead s vector true = .ok lo ∧ busRead s (vector + 1) true = .ok hi ∧
    perform act s = .next t ∧ regsAre t s.a s.x s.y (s.sp - 3) ∧
    t.flag .B = false ∧ t.flag .U = true ∧ t.flag .I = true ∧ sameFlagsBut [.B, .U, .I] s.p t.p ∧
    t.pc = BitVec.ofNat 16 (hi.toNat * 256 + lo.toNat) ∧ t.cycles = cycles ∧
    t.isCompleteCycle = s.isCompleteCycle ∧ t.opcode = s.opcode ∧ t.fetched = s.fetched ∧
    t.addrAbs = vector ∧ t.addrRel = s.addrRel ∧ sameDevices s t ∧
    busRead t (stackAddr s.sp) true = .ok (hiByte s.pc) ∧
    busRead t (stackAddr (s.sp - 1)) true = .ok (loByte s.pc) ∧
    busRead t (stackAddr (s.sp - 2)) true = .ok ((s.p &&& 0xEF) ||| 0x20) ∧
    memoryFrame s t [stackAddr s.sp, stackAddr (s.sp - 1), stackAddr (s.sp - 2)]

theorem interruptEntry_of_perform {act : HostAction} {s : State} {vector : Word} {n : Nat} (hr : busReady s = true)
    (hinv : MachineInv s) (h : perform act s = .next (s.interrupted vector n)) : InterruptEntry act s vector n := by
  obtain ⟨hB, hI, hother⟩ := s.entered_flags false s.pc vector
  have hflags : sameFlagsBut [.B, .U, .I] s.p (s.entered false s.pc vector).p := fun g hg =>
    hother g fun hmem => hg (by simpa [or_comm] using hmem)
  obtain ⟨hhi, hlo, hstatus, hframe⟩ := State.entered_stack hr hinv.ramCanonical false s.pc vector
  rw [pushedStatus_of_interrupt] at hstatus
  exact ⟨_, _, _, busRead_ready hr .., busRead_ready hr .., h, ⟨rfl, rfl, rfl, rfl⟩, hB,
    s.entered_unused false s.pc vector, hI, hflags, wordOf_eq .., rfl, rfl, rfl, rfl, rfl, rfl,
    ⟨rfl, rfl, rfl, rfl, rfl, rfl, rfl⟩, hhi, hlo, hstatus, hframe.congr ⟨rfl, rfl, rfl⟩ ⟨rfl, rfl, rfl⟩⟩

/-- Settles O39: a masked request is answered with the state as it is, any other by the entry through 0xFFFE. -/
theorem irqEntersTheHandlerUnlessMasked : Obligations.IrqEntersTheHandlerUnlessMasked := by
  unfold Obligations.IrqEntersTheHandlerUnlessMasked
  exact ⟨fun s hI => perform_irq_masked hI,
    fun s hI hr hinv => interruptEntry_of_perform hr hinv (perform_irq_accepted hr hI)⟩

/-- Settles O40: the entry through 0xFFFA, for which I is not asked. -/
theorem nmiEntersTheHandler : Obligations.NmiEntersTheHandler := by
  unfold Obligations.NmiEntersTheHandler
  exact fun s hr hinv => interruptEntry_of_perform hr hinv (perform_nmi hr)

/-! ### RTI after an entry -/

/-- RTI reads back the three bytes that the entry pushed (R286). -/
theorem State.returned_of_ramPush3 {s t : State} {ret : Word} {v : Byte} (hw : s.ram.wf = true)
    (hram : t.ram = ramPush3 s.ram s.sp (hiByte ret) (loByte ret) v) (hsp : t.sp = s.sp - 3) :
    t.returned.sp = s.sp ∧ t.returned.p = Machine.setFlag (Machine.setFlag v .B false) .U true ∧
      t.returned.pc = ret := by
  have h1 : s.sp - 3 + 1 = s.sp - 2 := by bv_omega
  have h2 : s.sp - 3 + 2 = s.sp - 1 := by bv_omega
  have h3 : s.sp - 3 + 3 = s.sp := BitVec.sub_add_cancel ..
  simp only [State.returned, hram, hsp, h1, h2, h3, ramPush3_first hw, ramPush3_second hw, ramPush3_third hw,
    Laws.RoundTrip.wordOf_bytes, and_self]

/-- Loading a status byte clears B and sets U, as the entry's push has done already. -/
theorem setFlag_pushedStatus (p : Byte) :
    setFlag (setFlag (pushedStatus p false) .B false) .U true = pushedStatus p false := by
  rw [pushedStatus, setFlag_setFlag_same, setFlag_setFlag_comm _ (by decide), setFlag_setFlag_same]

theorem perform_interrupt {act : HostAction} {s : State} (hact : act = .irq ∧ s.flag .I = false ∨ act = .nmi)
    (h : busReady s = true) : ∃ vector n, perform act s = .next (s.interrupted vector n) := by
  rcases hact with ⟨rfl, hI⟩ | rfl
  · exact ⟨_, _, perform_irq_accepted h hI⟩
  · exact ⟨_, _, perform_nmi h⟩

/-- Settles O41: RTI's routine pulls what the shared entry pushed. -/
theorem rtiUndoesInterruptEntry : Obligations.RtiUndoesInterruptEntry := by
  unfold Obligations.RtiUndoesInterruptEntry
  intro act s t hact hr hinv ht
  obtain ⟨vector, n, hentry⟩ := perform_interrupt hact hr
  obtain rfl : t = s.interrupted vector n := Host.Outcome.next.inj (ht.symm.trans hentry)
  have hnext := exec_implied (m := .RTI) (n := 6) rfl rfl
    (rti_routine (s := impliedState .rtiImp (s.interrupted vector n)) hr ..)
  obtain ⟨hsp, hp, hpc⟩ := State.returned_of_ramPush3 (s := s) (t := impliedState .rtiImp (s.interrupted vector n))
    hinv.ramCanonical rfl rfl
  rw [setFlag_pushedStatus, pushedStatus_of_interrupt] at hp
  exact ⟨_, hnext, hpc, hp, rfl, rfl, rfl, hsp⟩

/-! ### The picture timing unit -/

/-- One tick, field by field (R291). -/
theorem ppuClock_eq (s : State) : ppuClock s = { s with
    ppuCycle := if s.ppuCycle < 340 then s.ppuCycle + 1 else 0
    ppuScanline := if s.ppuCycle < 340 then s.ppuScanline
      else if s.ppuScanline < 260 then s.ppuScanline + 1 else -1
    frameComplete := s.frameComplete || decide (340 ≤ s.ppuCycle ∧ 260 ≤ s.ppuScanline) } := by
  unfold ppuClock
  split
  case isTrue hdot =>
    have hdot' : ¬ s.ppuCycle < 340 := by omega
    split
    case isTrue hline =>
      have hline' : ¬ s.ppuScanline < 260 := by omega
      simp [hline', not_lt.mp hdot', not_lt.mp hline']
    case isFalse hline =>
      have hline' : s.ppuScanline < 260 := by omega
      simp [hline', not_lt.mp hdot', not_le.mpr hline']
  case isFalse hdot =>
    have hdot' : s.ppuCycle < 340 := by omega
    simp [hdot', not_le.mpr hdot']

/-- Settles O44: the one tick, field by field. -/
theorem ppuClockCountsDotsAndLines : Obligations.PpuClockCountsDotsAndLines := by
  unfold Obligations.PpuClockCountsDotsAndLines
  intro s t h
  obtain rfl : ppuClock s = t := Host.Outcome.next.inj h
  rw [ppuClock_eq]
  exact ⟨rfl, rfl, rfl, rfl⟩

/-- The state with the picture unit `k` ticks after the first dot of a frame: 341 dots a line and 262 lines a frame,
the first of them line -1; the frame signal is raised once a frame has gone by (R291). -/
def State.atTick (s : State) (k : Nat) : State :=
  { s with
    ppuCycle := k % 341
    ppuScanline := (k / 341 % 262 : Nat) - 1
    frameComplete := s.frameComplete || decide (341 * 262 ≤ k) }

theorem dot_succ (k : Nat) : (if k % 341 < 340 then k % 341 + 1 else 0) = (k + 1) % 341 := by
  split <;> omega

theorem line_succ (k : Nat) :
    (if k % 341 < 340 then ((k / 341 % 262 : Nat) : Int) - 1
      else if ((k / 341 % 262 : Nat) : Int) - 1 < 260 then ((k / 341 % 262 : Nat) : Int) - 1 + 1 else -1) =
      ((k + 1) / 341 % 262 : Nat) - 1 := by
  split_ifs <;> omega

theorem frame_succ (k : Nat) :
    (341 * 262 ≤ k ∨ 340 ≤ k % 341 ∧ 260 ≤ ((k / 341 % 262 : Nat) : Int) - 1) ↔ 341 * 262 ≤ k + 1 := by
  omega

theorem ppuClock_atTick (s : State) (k : Nat) : ppuClock (s.atTick k) = s.atTick (k + 1) := by
  rw [ppuClock_eq]
  unfold State.atTick
  congr 1
  · exact dot_succ k
  · exact line_succ k
  · rw [Bool.or_assoc, ← Bool.decide_or]
    exact congrArg (s.frameComplete || ·) (decide_eq_decide.mpr (frame_succ k))

theorem ppuClocks_atTick (n : Nat) (s : State) (k : Nat) : ppuClocks n (s.atTick k) = s.atTick (k + n) := by
  induction n generalizing k with
  | zero => rfl
  | succ n ih => rw [ppuClocks, ppuClock_atTick, ih, Nat.add_right_comm, Nat.add_assoc]

/-- The ticks since the first dot of the frame. -/
def State.frameTick (s : State) : Nat := (s.ppuScanline + 1).toNat * 341 + s.ppuCycle

/-- Whole frames after its own tick a state has its dot and line again. -/
theorem State.atTick_frameTick_add {s : State} (hdot : s.ppuCycle ≤ 340) (hlow : -1 ≤ s.ppuScanline)
    (hhigh : s.ppuScanline ≤ 260) (n : Nat) : s.atTick (s.frameTick + n * (341 * 262)) =
      { s with frameComplete := s.frameComplete || decide (0 < n) } := by
  have hcycle : (s.frameTick + n * (341 * 262)) % 341 = s.ppuCycle := by unfold State.frameTick; omega
  have hline : ((s.frameTick + n * (341 * 262)) / 341 % 262 : Nat) - 1 = s.ppuScanline := by
    unfold State.frameTick; omega
  have hframe : 341 * 262 ≤ s.frameTick + n * (341 * 262) ↔ 0 < n := by unfold State.frameTick; omega
  unfold State.atTick
  rw [hcycle, hline, decide_eq_decide.mpr hframe]

/-- Settles O45: the tick count places a state in its frame, and a frame later only the signal differs. -/
theorem frameIsEightyNineThousandTicks : Obligations.FrameIsEightyNineThousandTicks := by
  unfold Obligations.FrameIsEightyNineThousandTicks
  intro s hdot hlow hhigh
  have hframes := State.atTick_frameTick_add hdot hlow hhigh
  calc ppuClocks (341 * 262) s
      = ppuClocks (341 * 262) (s.atTick s.frameTick) := by simpa using congrArg _ (hframes 0).symm
    _ = s.atTick (s.frameTick + 341 * 262) := ppuClocks_atTick ..
    _ = { s with frameComplete := true } := by simpa using hframes 1

/-! ### The bus clock -/

theorem busClock_of_mod_three {s : State} (h : s.busClockCounter % 3 ≠ 0) :
    busClock s = .next (countBusClock (ppuClock s)) := by
  simp only [busClock, ppuClock_busClockCounter, h, if_false]

theorem ppuClock_countBusClock (s : State) : ppuClock (countBusClock s) = countBusClock (ppuClock s) := by
  simp [ppuClock_eq, countBusClock]

/-- A CPU tick leaves the bus counter alone (40_execution R140). -/
theorem cpuClock_busClockCounter {s t : State} (h : cpuClock s = .next t) : t.busClockCounter = s.busClockCounter := by
  rcases cpuClock_next h with rfl | ⟨i, hi⟩
  · rfl
  · exact (exec_keeps hi).1.devices.1

/-- The two calls between one multiple of three and the next tick the picture unit alone (R289). -/
theorem busClocks_two {s : State} (h : s.busClockCounter % 3 = 1) :
    busClocks 2 s = .next { ppuClocks 2 s with busClockCounter := s.busClockCounter + 2 } := by
  have h1 : s.busClockCounter % 3 ≠ 0 := by omega
  have h2 : (countBusClock (ppuClock s)).busClockCounter % 3 ≠ 0 := by
    rw [countBusClock_busClockCounter, ppuClock_busClockCounter]
    omega
  simp only [busClocks, busClock_of_mod_three h1, busClock_of_mod_three h2, ppuClock_countBusClock]
  simp [ppuClocks, countBusClock]

/-- Settles O46: the first call ticks the CPU after the picture unit, the other two the picture unit alone. -/
theorem threeBusClocksTickTheCpuOnce : Obligations.ThreeBusClocksTickTheCpuOnce := by
  unfold Obligations.ThreeBusClocksTickTheCpuOnce
  intro s hmod
  rw [busClocks, busClock]
  simp only [ppuClock_busClockCounter, hmod, if_true]
  cases hcpu : cpuClock (ppuClock s) with
  | fault f => rfl
  | refused r => rfl
  | next t =>
    have hcount : t.busClockCounter = s.busClockCounter := by
      rw [cpuClock_busClockCounter hcpu, ppuClock_busClockCounter]
    have hone : (countBusClock t).busClockCounter % 3 = 1 := by
      rw [countBusClock_busClockCounter, hcount]
      omega
    show busClocks 2 (countBusClock t) = _
    rw [busClocks_two hone, countBusClock_busClockCounter, hcount]
    simp only [ppuClocks, ppuClock_countBusClock]
    rfl

end Sys2Proof.Machine
end

section
/-! PROOFS. Reset, and a machine that never stops (70_reset_and_hazards R320 to R325, R328, R329): the state that
CpuReset leaves, said once; the count of bus ticks between two completed instructions; and that with supported
cartridges every host action completes. -/

namespace Sys2Proof.Machine

/-! ### A supported machine stays supported -/

/-- Support asks for the header of the cartridge and for the script, and for nothing else. -/
theorem supported_congr {s t : State} (hcart : t.cart.map (·.header) = s.cart.map (·.header))
    (hscript : t.script = s.script) (hs : supported s) : supported t :=
  ⟨(busReady_congr hcart).trans hs.1, hscript ▸ hs.2⟩

theorem supported_of_keeps {s t : State} (h : Keeps s t) (hs : supported s) : supported t := by
  obtain ⟨-, -, -, -, -, hscript, hcart⟩ := h.devices
  refine supported_congr ?_ hscript hs
  simpa only [Option.map_map, Function.comp_def] using congrArg (Option.map Prod.fst) hcart

theorem ppuWrite_header_script {s t : State} {a : Word} {v : Byte} (h : ppuWrite s a v = .ok t) :
    t.cart.map (·.header) = s.cart.map (·.header) ∧ t.script = s.script := by
  rcases ppuWrite_ok h with rfl | ⟨c, off, hc, -, rfl⟩
  · exact ⟨rfl, rfl⟩
  · exact ⟨by rw [hc]; rfl, rfl⟩

theorem supported_kept : KeptByOperations supported where
  exec hs h := supported_of_keeps (exec_keeps h).1 hs
  wait hs := hs
  ppuClock {s} hs := supported_congr (by rw [ppuClock_cart]) (ppuClock_script s) hs
  countBusClock hs := hs
  clearFrameComplete hs := hs
  irq hs h := supported_of_keeps (keeps_irq h) hs
  nmi hs h := supported_of_keeps (keeps_nmi h) hs
  cpuReset hs h := supported_of_keeps (keeps_cpuReset h) hs
  zeroBusClock hs := hs
  busWrite hs h := supported_of_keeps (keeps_memWrite h) hs
  ppuWrite hs h := supported_congr (ppuWrite_header_script h).1 (ppuWrite_header_script h).2 hs

/-- Dropping the first action of the script leaves support, and so does inserting the cartridge it names. -/
theorem supported_script_tail {s : State} (hs : supported s) {act : HostAction} {rest : List HostAction}
    (h : s.script = act :: rest) : supported { s with script := rest } ∧
      ∀ c, act = .insertCartridge c → supported (insertCartridge c { s with script := rest }) := by
  obtain ⟨hready, hinserts⟩ := hs
  rw [h] at hinserts
  have hrest : ∀ c, HostAction.insertCartridge c ∈ rest → c.header.mapper.isSome = true :=
    fun c hc => hinserts c (List.mem_cons_of_mem act hc)
  refine ⟨⟨hready, hrest⟩, ?_⟩
  rintro c rfl
  exact ⟨hinserts c List.mem_cons_self, hrest⟩

/-! ### The resets -/

/-- The state that CpuReset leaves when the bus answers (R320). -/
def State.afterCpuReset (s : State) : State :=
  { s with
    a := 0
    x := 0
    y := 0
    sp := 0xFD
    p := 0x20
    pc := wordOf (readTarget s (targetOf s (resetVector + 1))) (readTarget s (targetOf s resetVector))
    addrAbs := 0
    addrRel := 0
    fetched := 0
    cycles := 8 }

theorem cpuReset_ready {s : State} (h : busReady s = true) : cpuReset s = .ok s.afterCpuReset := by
  rw [cpuReset, read16_ready h]
  rfl

theorem perform_cpuReset {s : State} (h : busReady s = true) : perform .cpuReset s = .next s.afterCpuReset := by
  rw [perform, cpuReset_ready h]
  rfl

/-- BusReset is CpuReset, and the bus counter zeroed (R321). -/
theorem perform_busReset {s : State} (h : busReady s = true) :
    perform .busReset s = .next { s.afterCpuReset with busClockCounter := 0 } := by
  rw [perform, busReset, cpuReset_ready h]
  rfl

/-- Settles O42: each register by the state that CpuReset leaves, PC by the two bytes of the vector. -/
theorem resetsSetTheRegisters : Obligations.ResetsSetTheRegisters := by
  unfold Obligations.ResetsSetTheRegisters
  intro s hr
  exact ⟨_, _, s.afterCpuReset, busRead_ready hr .., busRead_ready hr .., perform_cpuReset hr,
    ⟨rfl, rfl, rfl, rfl⟩, rfl, wordOf_eq .., rfl, rfl, rfl, rfl, rfl, rfl, ⟨rfl, rfl, rfl⟩,
    ⟨rfl, rfl, rfl, rfl, rfl, rfl, rfl⟩, perform_busReset hr⟩

/-- With an empty slot the bus answers, and the reset vector reads 0x0000 (20_memory R78). -/
theorem afterCpuReset_pc_of_emptySlot {s : State} (h : s.cart = none) : s.afterCpuReset.pc = 0 := by
  have hread (a : Word) (ha : ¬ a.toNat < 0x8000) : readTarget s (targetOf s a) = 0 := by
    rw [targetOf_upper s ha, h]
    rfl
  show wordOf (readTarget s (targetOf s (resetVector + 1))) (readTarget s (targetOf s resetVector)) = 0
  rw [hread _ (by decide), hread _ (by decide)]
  rfl

/-- Settles O43: at power-on the slot is empty, so the reset finds the vector 0x0000. -/
theorem stateResetIsPowerOnThenBusReset : Obligations.StateResetIsPowerOnThenBusReset := by
  unfold Obligations.StateResetIsPowerOnThenBusReset
  intro u
  have hpc : (State.powerOn {} u).afterCpuReset.pc = State.reset.pc := afterCpuReset_pc_of_emptySlot rfl
  rw [perform_busReset rfl]
  exact congrArg (fun pc => Host.Outcome.next { State.reset with opcode := u.opcode, pc := pc }) hpc

/-- A reset sets the Unused bit; the stores and the counters are the parameters' (R320, R322). -/
theorem machineInv_of_powerOn_busReset {c : Config} (hc : ConfigOk c) (u : PowerOnRegisters) :
    MachineInv { (State.powerOn c u).afterCpuReset with busClockCounter := 0 } where
  unusedSet := by simp only [State.flag, State.afterCpuReset]; decide
  ramCanonical := hc.ramCanonical
  ramWithin := hc.ramWithin
  ppuRegCanonical := rfl
  ppuRegWithin := rfl
  cartWf := nofun
  ppuCycleRange := hc.ppuCycleRange
  ppuScanlineLow := hc.ppuScanlineLow
  ppuScanlineHigh := hc.ppuScanlineHigh
  scriptWf := nofun

/-- Settles O55: with the empty slot of power-on the bus answers, so the reset completes. -/
theorem powerOnThenResetMeetsTheInvariant : Obligations.PowerOnThenResetMeetsTheInvariant := by
  unfold Obligations.PowerOnThenResetMeetsTheInvariant
  intro c u hc
  exact ⟨_, perform_busReset rfl, machineInv_of_powerOn_busReset hc u, rfl, rfl⟩

/-! ### The calls of a step -/

/-- Calls in a row are the first of them and then the rest. -/
theorem busClocks_add {m : Nat} {s u : State} (h : busClocks m s = .next u) (n : Nat) :
    busClocks (m + n) s = busClocks n u := by
  induction m generalizing s with
  | zero => rw [Nat.zero_add, Host.Outcome.next.inj h]
  | succ m ih =>
    rw [Nat.add_right_comm]
    simp only [busClocks] at h ⊢
    cases hcall : busClock s with
    | next t => exact ih (by simpa only [hcall] using h)
    | fault f => simp [hcall] at h
    | refused r => simp [hcall] at h

/-- One call is the bus tick. -/
theorem busClocks_one (s : State) : busClocks 1 s = busClock s := by
  simp only [busClocks]
  cases busClock s <;> rfl

/-- With nothing pending and the counter at a multiple of three, a call runs an instruction (60_exceptions R289,
40_execution R140). -/
theorem busClock_fetches {s t : State} (hcycles : s.cycles = 0) (hcounter : s.busClockCounter % 3 = 0)
    (h : busClock s = .next t) : ∃ i u, exec i (ppuClock s) = .next u ∧ t = countBusClock u := by
  simp only [busClock, ppuClock_busClockCounter, hcounter, if_true, cpuClock, ppuClock_cycles, hcycles] at h
  cases hfetch : fetch (ppuClock s) with
  | error f => simp [hfetch] at h
  | ok i =>
    cases hexec : exec i (ppuClock s) with
    | next u => exact ⟨i, u, hexec, by simpa [hfetch, hexec] using h.symm⟩
    | fault f => simp [hfetch, hexec] at h
    | refused r => simp [hfetch, hexec] at h

/-- "Step one instruction" ends in the call that runs it: the completed flag is set, and the counter stands one past
a multiple of three (60_exceptions R295 (b)). -/
theorem stepInstruction_next {s t : State} (h : stepInstruction s = .next t) :
    t.isCompleteCycle = true ∧ t.busClockCounter % 3 = 1 := by
  rw [stepInstruction, busClocks_add (waitTicksOnlyCountDown s), busClocks_one] at h
  have hcounter : (s.busClockCounter + callsBeforeFetch s) % 3 = 0 := by unfold callsBeforeFetch; omega
  obtain ⟨i, u, hexec, rfl⟩ := busClock_fetches rfl hcounter h
  obtain ⟨hkeeps, -, hcomplete⟩ := exec_keeps hexec
  have hcount : u.busClockCounter = s.busClockCounter + callsBeforeFetch s :=
    hkeeps.devices.1.trans (ppuClock_busClockCounter _)
  refine ⟨hcomplete, ?_⟩
  rw [countBusClock_busClockCounter, hcount]
  omega

/-- Settles O9: a counter one past a multiple of three takes two calls to the next one, three for each pending cycle
and the one that fetches. -/
theorem stepTakesThreeCallsForEachTick : Obligations.StepTakesThreeCallsForEachTick := by
  unfold Obligations.StepTakesThreeCallsForEachTick
  refine ⟨rfl, fun s t hscript h => ?_⟩
  rw [step, nextAction, hscript] at h
  obtain ⟨hcomplete, hcounter⟩ := stepInstruction_next h
  refine ⟨hcomplete, ?_⟩
  unfold callsBeforeFetch
  omega

/-! ### Every action completes -/

theorem cpuClock_completes {s : State} (h : busReady s = true) : ∃ t, cpuClock s = .next t := by
  unfold cpuClock
  by_cases hc : s.cycles = 0
  · obtain ⟨i, hi, -, -⟩ := fetch_ready h
    simpa only [if_pos hc, hi] using exec_ready h i
  · exact ⟨_, if_neg hc⟩

theorem busClock_completes {s : State} (h : busReady s = true) : ∃ t, busClock s = .next t := by
  by_cases hm : s.busClockCounter % 3 = 0
  · obtain ⟨t, ht⟩ := cpuClock_completes ((busReady_of_cart (ppuClock_cart s)).trans h)
    exact ⟨countBusClock t, by simp only [busClock, ppuClock_busClockCounter, if_pos hm, ht]⟩
  · exact ⟨_, busClock_of_mod_three hm⟩

theorem busClocks_completes {s : State} (hs : supported s) (n : Nat) : ∃ t, busClocks n s = .next t := by
  induction n generalizing s with
  | zero => exact ⟨s, rfl⟩
  | succ n ih =>
    obtain ⟨u, hu⟩ := busClock_completes hs.1
    simpa only [busClocks, hu] using ih (supported_kept.busClock hs hu)

/-- What is read completes, and what is made of it does too. -/
theorem bind_completes {ε α β : Type} {x : Except ε α} {g : α → Except ε β} (hx : ∃ a, x = .ok a)
    (hg : ∀ a, ∃ b, g a = .ok b) : ∃ b, (x >>= g) = .ok b := by
  obtain ⟨a, rfl⟩ := hx
  exact hg a

theorem disassembleFrom_completes {s : State} (h : busReady s = true) (fuel addr stop : Nat) :
    ∃ lines, disassembleFrom fuel s addr stop = .ok lines := by
  induction fuel generalizing addr with
  | zero => exact ⟨[], rfl⟩
  | succ fuel ih =>
    unfold disassembleFrom
    by_cases hstop : addr ≤ stop
    · rw [if_pos hstop]
      exact bind_completes ⟨_, busRead_ready h ..⟩ fun op => bind_completes
        (fetchForm_ready (s := { s with pc := BitVec.ofNat 16 addr + 1 }) h _) fun f =>
          bind_completes (ih _) fun rest => ⟨_, rfl⟩
    · exact ⟨[], if_neg hstop⟩

theorem ppuWrite_completes {s : State} (h : busReady s = true) (a : Word) (v : Byte) :
    ∃ t, ppuWrite s a v = .ok t := by
  by_cases ha : chrAccepts s (a &&& s.cfg.ppuBusMask)
  · obtain ⟨c, -, hw⟩ := ppuWrite_stored h ha v
    exact ⟨_, hw⟩
  · exact ⟨s, ppuWrite_dropped h ha v⟩

/-- No host action stops while the cartridge in the slot is supported (60_exceptions R298, 20_memory R71). -/
theorem perform_completes {s : State} (hs : supported s) (act : HostAction) : ∃ t, perform act s = .next t := by
  have h := hs.1
  cases act with
  | stepInstruction => exact busClocks_completes hs _
  | busClock => exact busClock_completes h
  | cpuClock => exact cpuClock_completes h
  | busReset => exact ⟨_, perform_busReset h⟩
  | cpuReset => exact ⟨_, perform_cpuReset h⟩
  | irq =>
    cases hI : s.flag .I with
    | true => exact ⟨s, perform_irq_masked hI⟩
    | false => exact ⟨_, perform_irq_accepted h hI⟩
  | nmi => exact ⟨_, perform_nmi h⟩
  | busRead a ro => exact ⟨s, by simp only [perform, busRead_ready h, observed]⟩
  | busWrite a v => exact ⟨_, congrArg outcomeOf (busWrite_ready h a v)⟩
  | ppuRead a ro => exact ⟨s, by simp only [perform, ppuRead_ready h, observed]⟩
  | ppuWrite a v =>
    obtain ⟨t, ht⟩ := ppuWrite_completes h a v
    exact ⟨t, congrArg outcomeOf ht⟩
  | disassemble start stop =>
    obtain ⟨lines, hl⟩ := disassembleFrom_completes h (stop.toNat + 1 - start.toNat) start.toNat stop.toNat
    exact ⟨s, congrArg (observed s) hl⟩
  | ppuClock | clearFrameComplete | loadCartridge | insertCartridge | snapshot => exact ⟨_, rfl⟩

/-- A step completes, and the machine it leaves is supported (R329). -/
theorem step_completes {s : State} (hs : supported s) : ∃ t, step s = .next t ∧ supported t := by
  have hnext : ∃ t, step s = .next t := by
    unfold step nextAction
    split
    · exact perform_completes hs .stepInstruction
    · next act rest hscript => exact perform_completes (supported_script_tail hs hscript).1 act
  obtain ⟨t, ht⟩ := hnext
  exact ⟨t, ht, supported_kept.step hs (fun _ _ => supported_script_tail hs) ht⟩

/-- A run goes on where its first step has led. -/
theorem run_succ {s u : State} (h : step s = .next u) (n : Nat) :
    Sys2Proof.core.run (n + 1) s = Sys2Proof.core.run n u := by
  have hstep : Sys2Proof.core.step s = .next u := h
  simp only [Host.Core.run, hstep]

/-- Settles O57, by induction on the number of steps. -/
theorem supportedMachineNeverStops : Obligations.SupportedMachineNeverStops := by
  unfold Obligations.SupportedMachineNeverStops
  intro s n hs
  induction n generalizing s with
  | zero => exact ⟨s, rfl, hs⟩
  | succ n ih =>
    obtain ⟨u, hu, hsu⟩ := step_completes hs
    rw [run_succ hu]
    exact ih u hsu

end Sys2Proof.Machine
end
